-- ==== Sys2Proof/Word.lean ====
section
/-!
DEFINITION. The numbers of CVS-CORE and the arithmetic primitives of 00_scope.md R16 and R17.

R16: "Every state element and bus is an unsigned integer of a stated width `W`, holding a value in `[0, 2^W - 1]`".
The widths are parameters of the instance, so a number is a `Nat` and its width is named at every
operation that wraps; that every state element stays within its width is an invariant (Machine/Invariant.lean).
DESIGN CHOICE, safe: log 2.
-/

namespace Sys2Proof

/-- The 8-bit operation word `OP` (30_encoding.md R80). -/
abbrev OpWord := BitVec 8

/-- The input index `i` of format I, 0 to 3 (30_encoding.md R81, R82). -/
abbrev InputIdx := Fin 4

/-- `add_W(a, b) = (a + b) mod 2^W` (R17). -/
def addW (w : Nat) (a b : Nat) : Nat := (a + b) % 2 ^ w

/-- `sub_W(a, b) = (a - b) mod 2^W`, the non-negative residue (R17). -/
def subW (w : Nat) (a b : Nat) : Nat := (a + (2 ^ w - b % 2 ^ w)) % 2 ^ w

/-- `absdiff(a, b) = a - b if a >= b else b - a` (R17). -/
def absDiff (a b : Nat) : Nat := if b ≤ a then a - b else b - a

/-- A one-bit value zero-extended to a bus (30_encoding.md R83). -/
def bit (b : Bool) : Nat := if b then 1 else 0

end Sys2Proof
end

