-- ==== Sys2Proof/Syntax.lean ====
section
/-!
DEFINITION. The thirteen operations of CVS-CORE (30_encoding.md R86), one constructor for each row
of spec/opcode_table.json, with their formats (R81), the context each is legal in (R97) and the
textual form (R100). Operands on the buses `A` and `B` and pin values are inputs of an operation,
not part of its word (R82), so they are no arguments here.
-/

namespace Sys2Proof

/-- The operations (30_encoding.md R86). -/
inductive Instr where
  /-- `SYS.WAIT`, word 0x01 -/
  | sysWait
  /-- `CLK.TICK`, word 0x10 -/
  | clkTick
  /-- `CLK.NOW`, word 0x11 -/
  | clkNow
  /-- `CLK.ELAPSED`, word 0x12 -/
  | clkElapsed
  /-- `CLK.HASELAPSED`, word 0x13 -/
  | clkHasElapsed
  /-- `FLT.SAMPLE`, word 0x20 -/
  | fltSample
  /-- `FLT.READING`, word 0x21 -/
  | fltReading
  /-- `FLT.MAGNITUDE`, word 0x22 -/
  | fltMagnitude
  /-- `DB.UPDATE i`, words 0x30 to 0x33 -/
  | dbUpdate (i : InputIdx)
  /-- `DB.GETSTATE i`, words 0x34 to 0x37 -/
  | dbGetState (i : InputIdx)
  /-- `EV.POLL i`, words 0x40 to 0x43 -/
  | evPoll (i : InputIdx)
  /-- `EV.CONSUME i`, words 0x44 to 0x47 -/
  | evConsume (i : InputIdx)
  /-- `CTL.STEP`, word 0x50 -/
  | ctlStep
deriving DecidableEq, Repr

/-- The four formats (30_encoding.md R81). -/
inductive Format where
  /-- the word alone -/
  | z
  /-- the word carries the input index -/
  | i
  /-- the word plus bus `A` -/
  | a
  /-- the word plus buses `A` and `B` -/
  | ab
deriving DecidableEq, Repr

/-- The format column of 30_encoding.md R86. -/
def Instr.format : Instr → Format
  | .sysWait => .z
  | .clkTick => .z
  | .clkNow => .z
  | .clkElapsed => .a
  | .clkHasElapsed => .ab
  | .fltSample => .z
  | .fltReading => .z
  | .fltMagnitude => .z
  | .dbUpdate _ => .i
  | .dbGetState _ => .i
  | .evPoll _ => .i
  | .evConsume _ => .i
  | .ctlStep => .z

/-- The context an operation is legal in, as the value of `CTX`: only `CLK.TICK` is the tick agent's (30_encoding.md R97). -/
def Instr.tickContext : Instr → Bool
  | .clkTick => true
  | .sysWait => false
  | .clkNow => false
  | .clkElapsed => false
  | .clkHasElapsed => false
  | .fltSample => false
  | .fltReading => false
  | .fltMagnitude => false
  | .dbUpdate _ => false
  | .dbGetState _ => false
  | .evPoll _ => false
  | .evConsume _ => false
  | .ctlStep => false

/-- The mnemonic column of 30_encoding.md R86. -/
def Instr.mnemonic : Instr → String
  | .sysWait => "SYS.WAIT"
  | .clkTick => "CLK.TICK"
  | .clkNow => "CLK.NOW"
  | .clkElapsed => "CLK.ELAPSED"
  | .clkHasElapsed => "CLK.HASELAPSED"
  | .fltSample => "FLT.SAMPLE"
  | .fltReading => "FLT.READING"
  | .fltMagnitude => "FLT.MAGNITUDE"
  | .dbUpdate _ => "DB.UPDATE"
  | .dbGetState _ => "DB.GETSTATE"
  | .evPoll _ => "EV.POLL"
  | .evConsume _ => "EV.CONSUME"
  | .ctlStep => "CTL.STEP"

/-- The input index a word carries, for format I (30_encoding.md R82). -/
def Instr.index : Instr → Option InputIdx
  | .dbUpdate i => some i
  | .dbGetState i => some i
  | .evPoll i => some i
  | .evConsume i => some i
  | .sysWait => none
  | .clkTick => none
  | .clkNow => none
  | .clkElapsed => none
  | .clkHasElapsed => none
  | .fltSample => none
  | .fltReading => none
  | .fltMagnitude => none
  | .ctlStep => none

/-- The textual form of an operation with the values on its buses, numbers in decimal
(30_encoding.md R100; log 20: the braces of pin values and expected results are test notation). -/
def Instr.asm (op : Instr) (a b : Nat) : String :=
  match op.format, op.index with
  | .a, _ => op.mnemonic ++ " " ++ toString a
  | .ab, _ => op.mnemonic ++ " " ++ toString a ++ ", " ++ toString b
  | .i, some i => op.mnemonic ++ " " ++ toString i.val
  | .i, none => op.mnemonic
  | .z, _ => op.mnemonic

end Sys2Proof
end

