-- ==== Sys2Proof/Decode.lean ====
section
/-!
DEFINITION. The decoder (30_encoding.md R80, R87, R90), total on all 256 words, then the encoder and the
machine-readable table of R86 with its test `(OP and mask) = match`.
-/

namespace Sys2Proof

/-- Why a word is no operation: the spec gives it no behaviour (30_encoding.md R90). -/
inductive DecodeError where
  /-- a word that no row of R86 matches -/
  | reservedOp (op : OpWord)
deriving DecidableEq, Repr

/-- `UNIT = OP[7:4]` (R80). -/
def opUnit (op : OpWord) : BitVec 4 := op.extractLsb' 4 4

/-- `FN = OP[3:2]` (R80). -/
def opFn (op : OpWord) : BitVec 2 := op.extractLsb' 2 2

/-- `SUB = OP[1:0]` (R80). -/
def opSub (op : OpWord) : BitVec 2 := op.extractLsb' 0 2

/-- The input index `i = zext(OP[1:0])` of format I (R81, R82). -/
def opIndex (op : OpWord) : InputIdx := (opSub op).toFin

/-- The operation a word stands for (R86, R87); every other word is reserved (R90). -/
def decode (op : OpWord) : Except DecodeError Instr :=
  match (opUnit op).toNat, (opFn op).toNat, (opSub op).toNat with
  | 0, 0, 1 => .ok .sysWait
  | 1, 0, 0 => .ok .clkTick
  | 1, 0, 1 => .ok .clkNow
  | 1, 0, 2 => .ok .clkElapsed
  | 1, 0, 3 => .ok .clkHasElapsed
  | 2, 0, 0 => .ok .fltSample
  | 2, 0, 1 => .ok .fltReading
  | 2, 0, 2 => .ok .fltMagnitude
  | 3, 0, _ => .ok (.dbUpdate (opIndex op))
  | 3, 1, _ => .ok (.dbGetState (opIndex op))
  | 4, 0, _ => .ok (.evPoll (opIndex op))
  | 4, 1, _ => .ok (.evConsume (opIndex op))
  | 5, 0, 0 => .ok .ctlStep
  | _, _, _ => .error (.reservedOp op)

/-- A word from its three fields (R80). -/
def opWord (unit : BitVec 4) (fn sub : BitVec 2) : OpWord := unit ++ fn ++ sub

/-- The word of an operation (R86). -/
def encode : Instr → OpWord
  | .sysWait => opWord 0 0 1
  | .clkTick => opWord 1 0 0
  | .clkNow => opWord 1 0 1
  | .clkElapsed => opWord 1 0 2
  | .clkHasElapsed => opWord 1 0 3
  | .fltSample => opWord 2 0 0
  | .fltReading => opWord 2 0 1
  | .fltMagnitude => opWord 2 0 2
  | .dbUpdate i => opWord 3 0 (BitVec.ofFin i)
  | .dbGetState i => opWord 3 1 (BitVec.ofFin i)
  | .evPoll i => opWord 4 0 (BitVec.ofFin i)
  | .evConsume i => opWord 4 1 (BitVec.ofFin i)
  | .ctlStep => opWord 5 0 0

/-- One row of the opcode table (R86, R87). -/
structure OpcodeRow where
  mnemonic : String
  pattern : OpWord
  mask : OpWord
deriving DecidableEq, Repr

/-- The test of R87: `(OP and mask) = match`. -/
def OpcodeRow.hits (row : OpcodeRow) (op : OpWord) : Bool := op &&& row.mask == row.pattern

/-- The thirteen rows of spec/opcode_table.json, in its order. -/
def opcodeTable : List OpcodeRow :=
  [⟨"SYS.WAIT", 0x01, 0xFF⟩, ⟨"CLK.TICK", 0x10, 0xFF⟩, ⟨"CLK.NOW", 0x11, 0xFF⟩,
   ⟨"CLK.ELAPSED", 0x12, 0xFF⟩, ⟨"CLK.HASELAPSED", 0x13, 0xFF⟩, ⟨"FLT.SAMPLE", 0x20, 0xFF⟩,
   ⟨"FLT.READING", 0x21, 0xFF⟩, ⟨"FLT.MAGNITUDE", 0x22, 0xFF⟩, ⟨"DB.UPDATE", 0x30, 0xFC⟩,
   ⟨"DB.GETSTATE", 0x34, 0xFC⟩, ⟨"EV.POLL", 0x40, 0xFC⟩, ⟨"EV.CONSUME", 0x44, 0xFC⟩,
   ⟨"CTL.STEP", 0x50, 0xFF⟩]

/-- The instruction the decoder reads from `nbits` bits of value `w`. Every operation is one 8-bit
word (R80), so another length is no instruction (log 10). -/
def decodeTableWord (nbits w : Nat) : Option Instr :=
  if nbits = 8 then (decode (BitVec.ofNat 8 w)).toOption else none

end Sys2Proof
end

