-- ==== Sys2Proof/Config.lean ====
section
/-!
DEFINITION. The parameter record `cfg` of an instance (00_scope.md R8), the reference configuration
`CFG_REF` (R8) and the small one `CFG_SMALL` (R10). Which records are instances (R9) is said in
WellFormed.lean. Every rule names parameters, never literals; so does the model. A machine state
carries its instance's record (log 1); no operation writes it (10_state.md R41).
-/

namespace Sys2Proof

/-- The parameter record of 00_scope.md R8, one field for each row of its table. -/
structure Cfg where
  /-- `TICK_W`: width of the tick counter, of a timestamp and of the buses A, B and R -/
  tickW : Nat
  /-- `SAMPLE_W`: width of a raw sample, of the mean and of the magnitude -/
  sampleW : Nat
  /-- `MAX`: full-scale raw sample -/
  max : Nat
  /-- `MID`: the midpoint default of the reading -/
  mid : Nat
  /-- `ZERO_REF`: the fixed zero-reference of the magnitude -/
  zeroRef : Nat
  /-- `N`: number of slots of the history ring -/
  n : Nat
  /-- `LOG2N` -/
  log2N : Nat
  /-- `NUM_INPUTS`: number of debounced inputs; input 0 is the push-button -/
  numInputs : Nat
  /-- `ACTIVE_LOW[i]` (places from `NUM_INPUTS` on are no hardware, log 7) -/
  activeLow : Vector Bool 4
  /-- `DB_DEFAULT[i]`, in raw polarity -/
  dbDefault : Vector Bool 4
  /-- `DB_THRESH`: debounce threshold, in executions of `DB.UPDATE i` -/
  dbThresh : Nat
  /-- `DB_CNT_W`: width of the stability counter -/
  dbCntW : Nat
  /-- `HIGH`: upper hysteresis threshold -/
  high : Nat
  /-- `LOW`: lower hysteresis threshold -/
  low : Nat
  /-- `DWELL_TICKS` -/
  dwellTicks : Nat
  /-- `OFF_TICKS` -/
  offTicks : Nat
  /-- `GUARD_TICKS` -/
  guardTicks : Nat
  /-- `DIAG_HOLD_TICKS` -/
  diagHoldTicks : Nat
  /-- `OFF_RESEND` -/
  offResend : Bool
  /-- `BOOT_TICK`: the tick value at reset -/
  bootTick : Nat
deriving DecidableEq, Repr

/-- `CFG_REF`, the reference configuration (00_scope.md R8, column CFG_REF). -/
def Cfg.ref : Cfg where
  tickW := 32
  sampleW := 10
  max := 1023
  mid := 512
  zeroRef := 512
  n := 64
  log2N := 6
  numInputs := 1
  activeLow := #v[true, false, false, false]
  dbDefault := #v[true, false, false, false]
  dbThresh := 100
  dbCntW := 7
  high := 70
  low := 50
  dwellTicks := 2000
  offTicks := 2000
  guardTicks := 1000
  diagHoldTicks := 2000
  offResend := false
  bootTick := 0

/-- `CFG_SMALL`, used by the test vectors only (00_scope.md R10). It breaks R9(f), so it is no instance and no step runs it (log 5). -/
def Cfg.small : Cfg where
  tickW := 8
  sampleW := 10
  max := 1023
  mid := 512
  zeroRef := 512
  n := 4
  log2N := 2
  numInputs := 1
  activeLow := #v[true, false, false, false]
  dbDefault := #v[true, false, false, false]
  dbThresh := 3
  dbCntW := 2
  high := 70
  low := 50
  dwellTicks := 5
  offTicks := 5
  guardTicks := 4
  diagHoldTicks := 6
  offResend := false
  bootTick := 0

end Sys2Proof
end

