-- ==== Sys2Proof/Machine/State.lean ====
section
/-!
DEFINITION. The state of CVS-CORE: the complete table of 10_state.md R43, one record for each owner unit
(R42), the ports of R45 to R50, and the model's own fields (the presentations still to come, the hold of a
`SYS.WAIT`, the record of R52). The state after reset (R43, 70_reset_and_hazards.md R291). The reasons a step can stop.
-/

namespace Sys2Proof.Machine

/-- The history ring's contents: pairs (slot index, sample) in one canonical form, slot indices strictly rising and no
listed sample equal to what an unlisted slot reads as (20_memory.md R60, R62; log 3). -/
abbrev Memory := List (Nat × Nat)

/-- `EVSTATE[i]` (10_state.md R32, 30_encoding.md R102). -/
inductive EvState where
  | idle
  | held
  | released
deriving DecidableEq, Repr

/-- `CSTATE` (10_state.md R33, 30_encoding.md R102). -/
inductive CState where
  | idle
  | turningOn
  | dwell
  | turningOff
deriving DecidableEq, Repr

/-- What the command port carries (10_state.md R49, 30_encoding.md R103). -/
inductive Cmd where
  | none
  | start
  | stop
  | value (v : Nat)
deriving DecidableEq, Repr

/-- One presentation of the input ports (10_state.md R45, R46, R48): what the reset pin, the operation port
and the sampled pins carry during one step. -/
structure InPort where
  /-- `RST` -/
  rst : Bool
  /-- `OP_VALID` -/
  opValid : Bool
  /-- `CTX`: true for the tick agent, false for the sequencer -/
  ctx : Bool
  /-- `OP` -/
  op : OpWord
  /-- bus `A` -/
  a : Nat
  /-- bus `B` -/
  b : Nat
  /-- `WAKE` -/
  wake : Bool
  /-- `SMP_READY` -/
  smpReady : Bool
  /-- `SMP_RAW` -/
  smpRaw : Nat
  /-- `DIN[i]` -/
  din : Vector Bool 4
deriving DecidableEq, Repr

/-- Nothing is presented (log 9). -/
def InPort.idle : InPort where
  rst := false
  opValid := false
  ctx := false
  op := 0
  a := 0
  b := 0
  wake := false
  smpReady := false
  smpRaw := 0
  din := Vector.replicate 4 false

/-- The output ports of the last step (10_state.md R45, R46, R49); `SOCKET_REQ` and `TICK_PIN` are driven from
the state elements of those names (R50). -/
structure OutPort where
  /-- result bus `R` -/
  r : Nat
  /-- the command port -/
  cmd : Cmd
  /-- `SMP_ACK` -/
  smpAck : Bool
deriving DecidableEq, Repr

/-- The outputs when nothing drives them (70_reset_and_hazards.md R291). -/
def OutPort.rest : OutPort := ⟨0, .none, false⟩

/-- The unit CLK (10_state.md R22, R23). -/
structure Clk where
  /-- `TICK` -/
  tick : Nat
  /-- `TICK_PIN` -/
  tickPin : Bool
deriving DecidableEq, Repr

/-- The unit FLT (10_state.md R24 to R27). -/
structure Flt where
  /-- `HIST` -/
  hist : Memory
  /-- `CURSOR` -/
  cursor : Nat
  /-- `FULL` -/
  full : Bool
  /-- `MEAN` -/
  mean : Nat
deriving DecidableEq, Repr

/-- The unit DB, per input (10_state.md R28 to R31). -/
structure Db where
  /-- `LAST_RAW[i]` -/
  lastRaw : Vector Bool 4
  /-- `VALIDATED[i]` -/
  validated : Vector Bool 4
  /-- `INITIALIZED[i]` -/
  initialized : Vector Bool 4
  /-- `CNT[i]` -/
  cnt : Vector Nat 4
deriving DecidableEq, Repr

/-- The unit CTL (10_state.md R33 to R39). -/
structure Ctl where
  /-- `CSTATE` -/
  cstate : CState
  /-- `DWELL_START` -/
  dwellStart : Nat
  /-- `CURRENT_CONTROL` -/
  currentControl : Bool
  /-- `DIAG_MODE` -/
  diagMode : Bool
  /-- `GUARD_DONE` -/
  guardDone : Bool
  /-- `BTN_UP_TICK` -/
  btnUpTick : Nat
  /-- `SOCKET_REQ` -/
  socketReq : Bool
deriving DecidableEq, Repr

/-- What 10_state.md R52 says a model must record (log 15). -/
structure Record where
  /-- the `R` results, in program order -/
  results : List Nat
  /-- the commands emitted by `CTL.STEP`, in program order, `NONE` included -/
  commands : List Cmd
deriving DecidableEq, Repr

/-- The machine. -/
structure State where
  /-- the instance's hard-wired parameters (00_scope.md R8, 10_state.md R41), written by no operation (log 1) -/
  cfg : Cfg
  clk : Clk
  flt : Flt
  db : Db
  /-- `EVSTATE[i]`, the one element of the unit EV (10_state.md R32) -/
  evState : Vector EvState 4
  ctl : Ctl
  /-- the input ports now -/
  port : InPort
  /-- the model's own: what the agents and the environment present after that, first one first (log 8) -/
  pending : List InPort
  /-- the model's own: the sequencer is inside a `SYS.WAIT` whose hold is not lifted (45_system.md R241; log 12) -/
  hold : Bool
  /-- the output ports -/
  out : OutPort
  /-- the model's own: the record of R52 -/
  record : Record
deriving DecidableEq, Repr

/-- CVS-CORE has no fault: no operation raises (60_exceptions.md R250, R251), so nothing raises one here and
the type is empty (log 19). -/
inductive Fault
deriving DecidableEq, Repr

/-- The refusals, verdicts of the model and no events of the hardware (30_encoding.md R95). -/
inductive Refusal where
  /-- raised by `exec` for an operation that has no meaning yet; safe (nothing can be proved of such a run) -/
  | notModelled (mnemonic : String)
  /-- raised by `step` on a reserved word, `refuse(ReservedOp)` (30_encoding.md R90, R95); safe -/
  | reservedOp
  /-- raised by a meaning on a word in the wrong context, `refuse(WrongContext)` (30_encoding.md R95, R97); safe -/
  | wrongContext
  /-- raised by `step` when the parameter record breaks a constraint (00_scope.md R9, 93_implementation_defined.md U3); safe -/
  | invalidCfg
deriving DecidableEq, Repr

/-- CLK after reset (10_state.md R43). -/
def Clk.initial (c : Cfg) : Clk := ⟨c.bootTick, false⟩

/-- FLT after reset (10_state.md R43); `HIST` lists nothing (log 4). -/
def Flt.initial (c : Cfg) : Flt := ⟨[], 0, false, c.mid⟩

/-- DB after reset (10_state.md R43). -/
def Db.initial : Db where
  lastRaw := Vector.replicate 4 false
  validated := Vector.replicate 4 false
  initialized := Vector.replicate 4 false
  cnt := Vector.replicate 4 0

/-- CTL after reset (10_state.md R43). -/
def Ctl.initial (c : Cfg) : Ctl where
  cstate := .idle
  dwellStart := 0
  currentControl := true
  diagMode := false
  guardDone := false
  btnUpTick := c.bootTick
  socketReq := false

/-- The state of the instance `c` right after reset (10_state.md R43, 70_reset_and_hazards.md R291), nothing presented. -/
def State.resetOf (c : Cfg) : State where
  cfg := c
  clk := Clk.initial c
  flt := Flt.initial c
  db := Db.initial
  evState := Vector.replicate 4 .idle
  ctl := Ctl.initial c
  port := .idle
  pending := []
  hold := false
  out := .rest
  record := ⟨[], []⟩

/-- The reference instance right after reset (log 1). -/
def State.reset : State := State.resetOf Cfg.ref

end Sys2Proof.Machine
end

