-- ==== Sys2Proof/Machine/Ops.lean ====
section
/-!
DEFINITION. The shared operations: reading and writing the history ring, what every operation of the port does
(context check, result, command), and what a step does around an operation (advancing the presentations, an idle
port, reset). CVS-CORE takes no exception and returns from none (60_exceptions.md R250, R255, R256): the
tick interrupt's whole entry is the operation `CLK.TICK` (Machine/Clock.lean; log 19).
-/

namespace Sys2Proof.Machine

/-! The history ring (20_memory.md R60, R61; 10_state.md R24). -/

/-- What a slot that the ring's list does not mention reads as: 0, "a model may use 0" (10_state.md R24; DESIGN CHOICE, log 4). -/
def Memory.unlisted : Nat := 0

/-- `HIST[k]`. -/
def Memory.read : Memory → Nat → Nat
  | [], _ => Memory.unlisted
  | (a, x) :: rest, k => if a = k then x else Memory.read rest k

/-- `HIST[k] <- v`, keeping the canonical form. -/
def Memory.write : Memory → Nat → Nat → Memory
  | [], k, v => if v = Memory.unlisted then [] else [(k, v)]
  | (a, x) :: rest, k, v =>
    if k < a then
      if v = Memory.unlisted then (a, x) :: rest else (k, v) :: (a, x) :: rest
    else if a = k then
      if v = Memory.unlisted then rest else (k, v) :: rest
    else (a, x) :: Memory.write rest k v

/-- The canonical form: slot indices strictly rising, no listed sample equal to what an unlisted slot reads as. -/
abbrev Memory.wf (m : Memory) : Prop :=
  (m.map Prod.fst).Pairwise (· < ·) ∧ ∀ c ∈ m, c.2 ≠ Memory.unlisted

/-- `sum_{k=0}^{n-1} HIST[k]`, exact (00_scope.md R17). -/
def Memory.sum (m : Memory) : Nat → Nat
  | 0 => 0
  | n + 1 => Memory.sum m n + m.read n

/-! What every operation does at the ports. -/

/-- The hold of a `SYS.WAIT` in progress, if there is one, is lifted and that operation completes with its result
`R <- 0` (45_system.md R241; log 13). -/
def State.endHold (s : State) : State :=
  if s.hold then
    { s with hold := false, record := { s.record with results := s.record.results ++ [0] } }
  else s

/-- An operation begins: whatever hold was in progress is over, and the output ports carry nothing yet (an operation that
does not mention an output leaves it at rest, 00_scope.md R18). -/
def State.beginOp (s : State) : State := { s.endHold with out := .rest }

/-- `R <- v`: the operation completes with the result `v` (00_scope.md R18, 30_encoding.md R83; recorded, 10_state.md R52). -/
def State.drive (s : State) (v : Nat) : State :=
  { s with
    out := { s.out with r := v }
    record := { s.record with results := s.record.results ++ [v] } }

/-- `SOCKET_REQ` after a command: 1 after `START`, 0 after `STOP`, unchanged by `NONE` and `VALUE` (44_control.md R201,
10_state.md R39). -/
def socketReqNext (c : Cmd) (old : Bool) : Bool :=
  match c with
  | .start => true
  | .stop => false
  | .none => old
  | .value _ => old

/-- `emit c`: drive the command port for this operation (00_scope.md R18) and keep `SOCKET_REQ` (44_control.md R201);
recorded, 10_state.md R52. -/
def State.emit (s : State) (c : Cmd) : State :=
  { s with
    ctl := { s.ctl with socketReq := socketReqNext c s.ctl.socketReq }
    out := { s.out with cmd := c }
    record := { s.record with commands := s.record.commands ++ [c] } }

/-- `pulse(SMP_ACK)` (00_scope.md R18, 10_state.md R46). -/
def State.pulseAck (s : State) : State := { s with out := { s.out with smpAck := true } }

/-- An operation of the sequencer: legal with `CTX` = 0 only; in the other context the model refuses (30_encoding.md R97, R95). -/
def State.loopOp (s : State) (body : State → State) : Host.Outcome State Fault Refusal :=
  if s.port.ctx then .refused .wrongContext else .next (body s.beginOp)

/-- An operation of the tick agent: legal with `CTX` = 1 only (30_encoding.md R97, R95). -/
def State.tickOp (s : State) (body : State → State) : Host.Outcome State Fault Refusal :=
  if s.port.ctx then .next (body s.beginOp) else .refused .wrongContext

/-- A format I operation on input `i`: with `i >= NUM_INPUTS` a defined no-operation that samples no pin and drives
`R <- 0` (30_encoding.md R96). -/
def State.onInput (s : State) (i : InputIdx) (body : State → State) : State :=
  if i.val < s.cfg.numInputs then body s else s.drive 0

/-! The command port's encoding (10_state.md R49, 30_encoding.md R103). -/

/-- `CMD_KIND`. -/
def Cmd.kind : Cmd → BitVec 2
  | .none => 0b00
  | .start => 0b01
  | .stop => 0b10
  | .value _ => 0b11

/-- `CMD_VAL`: the value of `VALUE(v)`, 0 for the other kinds. -/
def Cmd.val : Cmd → Nat
  | .value v => v
  | .none => 0
  | .start => 0
  | .stop => 0

/-- `CMD_VALID`: 1 exactly when `CMD_KIND` is not `NONE`. -/
def Cmd.valid (c : Cmd) : Bool := c.kind != 0b00

/-- The code of `EVSTATE` (10_state.md R32); nothing reads it (30_encoding.md R102). -/
def EvState.code : EvState → BitVec 2
  | .idle => 0b00
  | .held => 0b01
  | .released => 0b10

/-- The code of `CSTATE` (10_state.md R33); nothing reads it (30_encoding.md R102). -/
def CState.code : CState → BitVec 2
  | .idle => 0b00
  | .turningOn => 0b01
  | .dwell => 0b10
  | .turningOff => 0b11

/-! What a step does around an operation. -/

/-- The next presentation comes to the port; when none is left, nothing is presented (log 8, log 9). -/
def State.advance (s : State) : State :=
  { s with port := s.pending.headD .idle, pending := s.pending.tail }

/-- No operation is presented: no unit changes and nothing is driven (log 11); `WAKE` lifts a hold (45_system.md R241). -/
def State.idleOp (s : State) : State :=
  { (if s.port.wake then s.endHold else s) with out := .rest }

/-- `RST`: every state element takes its reset value and nothing executes (70_reset_and_hazards.md R290, R291;
93_implementation_defined.md U7). The instance, the presentations to come and the record stay (log 14, log 15). -/
def State.applyReset (s : State) : State :=
  { State.resetOf s.cfg with port := s.port, pending := s.pending, record := s.record }

/-- The operation word on the port, decoded. -/
def State.fetch (s : State) : Except DecodeError Instr := decode s.port.op

end Sys2Proof.Machine
end

