-- ==== Sys2Proof/Machine/Flags.lean ====
section
/-!
DEFINITION. The computations of the one-bit flags (10_state.md R40). There are no condition codes: no arithmetic sets
a flag. `SOCKET_REQ` follows the emitted command and stands beside `emit` (Machine/Ops.lean, `socketReqNext`).
-/

namespace Sys2Proof.Machine

/-- `TICK_PIN` after a tick: complemented (40_clock.md R110). -/
def tickPinNext (old : Bool) : Bool := !old

/-- `FULL` after a consumed sample: set when slot `N - 1` has been written, never cleared (41_filter.md R130(c)). -/
def fullNext (n cursor : Nat) (old : Bool) : Bool := old || decide (cursor = n - 1)

/-- `CURRENT_CONTROL` after the manual toggle: complemented by a completed press (44_control.md R195). -/
def currentControlNext (press old : Bool) : Bool := if press then !old else old

/-- `toggled_off`: this step's press disabled current control (44_control.md R195). -/
def toggledOff (press old : Bool) : Bool := press && !(currentControlNext press old)

end Sys2Proof.Machine
end

