-- ==== Sys2Proof/Machine/Operands.lean ====
section
/-!
DEFINITION. The operand forms (30_encoding.md R81, R82): the buses `A` and `B`, used as they are, and the pins an
operation samples (00_scope.md R18, `pin(P)`). A bus of W wires carries a number below 2^W, so what a
presentation names is read modulo 2^W (log 16).
-/

namespace Sys2Proof.Machine

/-- Bus `A`, `TICK_W` bits. -/
def State.busA (s : State) : Nat := s.port.a % 2 ^ s.cfg.tickW

/-- Bus `B`, `TICK_W` bits. -/
def State.busB (s : State) : Nat := s.port.b % 2 ^ s.cfg.tickW

/-- `pin(SMP_READY)` (10_state.md R46). -/
def State.pinReady (s : State) : Bool := s.port.smpReady

/-- `pin(SMP_RAW)`, `SAMPLE_W` bits (10_state.md R46). -/
def State.pinRaw (s : State) : Nat := s.port.smpRaw % 2 ^ s.cfg.sampleW

/-- `pin(DIN[i])` (10_state.md R48). -/
def State.pinDin (s : State) (i : InputIdx) : Bool := s.port.din[i]

/-- `pin(WAKE)` (10_state.md R45). -/
def State.pinWake (s : State) : Bool := s.port.wake

end Sys2Proof.Machine
end

