-- ==== Sys2Proof/Machine/Clock.lean ====
section
/-!
DEFINITION. The Monotonic Clock, CLK (40_clock.md).
-/

namespace Sys2Proof.Machine

/-- `elapsed_at(t, s) = (t - s) mod 2^TICK_W` (40_clock.md R115). -/
def elapsedAt (c : Cfg) (t start : Nat) : Nat := subW c.tickW t start

/-- `has_elapsed_at(t, s, d)`: whether `elapsed_at(t, s) >= d` (40_clock.md R115). -/
def hasElapsedAt (c : Cfg) (t start duration : Nat) : Bool := decide (duration ≤ elapsedAt c t start)

/-- The tick: the only writer of `TICK` (40_clock.md R110, 20_memory.md R72). -/
def Clk.advance (k : Clk) (c : Cfg) : Clk := ⟨addW c.tickW k.tick 1, tickPinNext k.tickPin⟩

/-- `CLK.TICK` (40_clock.md R110). It is the whole handler of the tick interrupt (60_exceptions.md R255). -/
def execClkTick (s : State) : Host.Outcome State Fault Refusal :=
  s.tickOp fun s => { s with clk := s.clk.advance s.cfg }.drive 0

/-- `CLK.NOW` (40_clock.md R111). -/
def execClkNow (s : State) : Host.Outcome State Fault Refusal :=
  s.loopOp fun s => s.drive s.clk.tick

/-- `CLK.ELAPSED` (40_clock.md R112). -/
def execClkElapsed (s : State) : Host.Outcome State Fault Refusal :=
  s.loopOp fun s => s.drive (elapsedAt s.cfg s.clk.tick s.busA)

/-- `CLK.HASELAPSED` (40_clock.md R113). -/
def execClkHasElapsed (s : State) : Host.Outcome State Fault Refusal :=
  s.loopOp fun s => s.drive (bit (hasElapsedAt s.cfg s.clk.tick s.busA s.busB))

end Sys2Proof.Machine
end

