-- ==== Sys2Proof/Machine/Debounce.lean ====
section
/-!
DEFINITION. The Debounce Unit, DB (42_debounce.md).
-/

namespace Sys2Proof.Machine

/-- `getstate(i) = VALIDATED[i] if INITIALIZED[i] = 1 else DB_DEFAULT[i]`, in raw polarity (42_debounce.md R152). -/
def Db.getState (d : Db) (c : Cfg) (i : InputIdx) : Bool :=
  if d.initialized[i] then d.validated[i] else c.dbDefault[i]

/-- One debounce step of input `i` on the raw value `raw` (42_debounce.md R150): a changed value restarts the window; an
unchanged one is counted, saturating at `DB_THRESH`, and committed when the count is there. -/
def Db.update (d : Db) (c : Cfg) (i : InputIdx) (raw : Bool) : Db :=
  if raw ≠ d.lastRaw[i] then
    { d with lastRaw := d.lastRaw.set i raw, cnt := d.cnt.set i 0 }
  else
    let count := min (d.cnt[i] + 1) c.dbThresh
    if count = c.dbThresh then
      { d with
        cnt := d.cnt.set i count
        validated := d.validated.set i raw
        initialized := d.initialized.set i true }
    else { d with cnt := d.cnt.set i count }

/-- `DB.UPDATE i` (42_debounce.md R150). -/
def execDbUpdate (i : InputIdx) (s : State) : Host.Outcome State Fault Refusal :=
  s.loopOp fun s => s.onInput i fun s => { s with db := s.db.update s.cfg i (s.pinDin i) }.drive 0

/-- `DB.GETSTATE i` (42_debounce.md R151). -/
def execDbGetState (i : InputIdx) (s : State) : Host.Outcome State Fault Refusal :=
  s.loopOp fun s => s.onInput i fun s => s.drive (bit (s.db.getState s.cfg i))

end Sys2Proof.Machine
end

