-- ==== Sys2Proof/Machine/Event.lean ====
section
/-!
DEFINITION. The Input Event Layer, EV (43_input_event.md).
-/

namespace Sys2Proof.Machine

/-- `level(i) = getstate(i) xor ACTIVE_LOW[i]`; true means pressed (43_input_event.md R171). -/
def State.level (s : State) (i : InputIdx) : Bool := (s.db.getState s.cfg i).xor s.cfg.activeLow[i]

/-- The transition table of `EV.POLL i` (43_input_event.md R172). -/
def EvState.poll (e : EvState) (level : Bool) : EvState :=
  match e with
  | .idle => if level then .held else .idle
  | .held => if level then .held else .released
  | .released => .released

/-- The result of `consume(i)`: whether an event waits (43_input_event.md R174). -/
def EvState.consumed (e : EvState) : Bool := e == .released

/-- The state that `consume(i)` leaves (43_input_event.md R174). -/
def EvState.afterConsume (e : EvState) : EvState :=
  match e with
  | .idle => .idle
  | .held => .held
  | .released => .idle

/-- `consume(i)`, the result (43_input_event.md R174). -/
def State.consumeResult (s : State) (i : InputIdx) : Bool := s.evState[i].consumed

/-- `consume(i)`, the side effect (43_input_event.md R174). -/
def State.consumeEffect (s : State) (i : InputIdx) : State :=
  { s with evState := s.evState.set i s.evState[i].afterConsume }

/-- `EV.POLL i` (43_input_event.md R172). -/
def execEvPoll (i : InputIdx) (s : State) : Host.Outcome State Fault Refusal :=
  s.loopOp fun s => s.onInput i fun s =>
    { s with evState := s.evState.set i (s.evState[i].poll (s.level i)) }.drive 0

/-- `EV.CONSUME i` (43_input_event.md R173). -/
def execEvConsume (i : InputIdx) (s : State) : Host.Outcome State Fault Refusal :=
  s.loopOp fun s => s.onInput i fun s => (s.consumeEffect i).drive (bit (s.consumeResult i))

end Sys2Proof.Machine
end

