-- ==== Sys2Proof/Machine/Filter.lean ====
section
/-!
DEFINITION. The Signal Averaging Filter, FLT (41_filter.md).
-/

namespace Sys2Proof.Machine

/-- `reading() = MEAN if FULL = 1 else MID` (41_filter.md R133). -/
def Flt.reading (f : Flt) (c : Cfg) : Nat := if f.full then f.mean else c.mid

/-- `magnitude() = absdiff(reading(), ZERO_REF)` (41_filter.md R133). -/
def Flt.magnitude (f : Flt) (c : Cfg) : Nat := absDiff (f.reading c) c.zeroRef

/-- The mean of the whole window, `(sum_{k=0}^{N-1} HIST[k]) >> LOG2N` (41_filter.md R130(d)). -/
def Memory.windowMean (m : Memory) (c : Cfg) : Nat := m.sum c.n >>> c.log2N

/-- Consuming one sample (41_filter.md R130 (a) to (d)): the slot at the cursor is overwritten, the cursor advances
with wraparound, the first full lap sets `FULL`, and with `FULL` set the mean is recomputed over the new ring. -/
def Flt.ingest (f : Flt) (c : Cfg) (raw : Nat) : Flt :=
  let hist := f.hist.write f.cursor raw
  let full := fullNext c.n f.cursor f.full
  { hist := hist
    cursor := if f.cursor = c.n - 1 then 0 else f.cursor + 1
    full := full
    mean := if full then hist.windowMean c else f.mean }

/-- `FLT.SAMPLE` (41_filter.md R130). -/
def execFltSample (s : State) : Host.Outcome State Fault Refusal :=
  s.loopOp fun s =>
    if s.pinReady then (({ s with flt := s.flt.ingest s.cfg s.pinRaw }).pulseAck).drive 0
    else s.drive 0

/-- `FLT.READING` (41_filter.md R131). -/
def execFltReading (s : State) : Host.Outcome State Fault Refusal :=
  s.loopOp fun s => s.drive (s.flt.reading s.cfg)

/-- `FLT.MAGNITUDE` (41_filter.md R132). -/
def execFltMagnitude (s : State) : Host.Outcome State Fault Refusal :=
  s.loopOp fun s => s.drive (s.flt.magnitude s.cfg)

end Sys2Proof.Machine
end

