-- ==== Sys2Proof/Machine/Control.lean ====
section
/-!
DEFINITION. The Control State Machine, CTL (44_control.md). R202 is the normative text of `CTL.STEP`; the parts here
are its parts, in its order.
-/

namespace Sys2Proof.Machine

/-- `in_guard` (44_control.md R193). -/
def State.inGuard (s : State) (t : Nat) : Bool :=
  !s.ctl.guardDone && !hasElapsedAt s.cfg t s.cfg.bootTick s.cfg.guardTicks

/-- The hold-detector finds the button held for `DIAG_HOLD_TICKS` (44_control.md R194). -/
def State.holdElapsed (s : State) (t : Nat) : Bool :=
  s.level 0 && hasElapsedAt s.cfg t s.ctl.btnUpTick s.cfg.diagHoldTicks

/-- What one evaluation of the FSM yields: the next `CSTATE`, the next `DWELL_START` and `fsm_cmd`. -/
structure FsmResult where
  cstate : CState
  dwellStart : Nat
  cmd : Cmd
deriving DecidableEq, Repr

/-- The FSM in state `ST_IDLE` (44_control.md R196). -/
def fsmIdle (c : Cfg) (start m : Nat) : FsmResult :=
  if c.high < m then ⟨.turningOn, start, .start⟩ else ⟨.idle, start, .stop⟩

/-- The FSM in state `ST_TURNING_ON` (44_control.md R197). -/
def fsmTurningOn (c : Cfg) (start t m : Nat) : FsmResult :=
  if m < c.low then ⟨.dwell, t, .start⟩ else ⟨.turningOn, start, .start⟩

/-- The FSM in state `ST_DWELL` (44_control.md R198). -/
def fsmDwell (c : Cfg) (start t m : Nat) : FsmResult :=
  if c.low < m then ⟨.turningOn, start, .none⟩
  else if hasElapsedAt c t start c.dwellTicks then ⟨.turningOff, t, .stop⟩
  else ⟨.dwell, start, .none⟩

/-- The FSM in state `ST_TURNING_OFF` (44_control.md R199). -/
def fsmTurningOff (c : Cfg) (start t m : Nat) : FsmResult :=
  if c.high < m then ⟨.turningOn, start, .none⟩
  else if hasElapsedAt c t start c.offTicks then ⟨.idle, start, .none⟩
  else ⟨.turningOff, start, if c.offResend then .stop else .none⟩

/-- The FSM in its current state (44_control.md R196 to R199), at the snapshot `t` and the magnitude `m`. -/
def fsm (c : Cfg) (state : CState) (start t m : Nat) : FsmResult :=
  match state with
  | .idle => fsmIdle c start m
  | .turningOn => fsmTurningOn c start t m
  | .dwell => fsmDwell c start t m
  | .turningOff => fsmTurningOff c start t m

/-- The gate: the command actually emitted (44_control.md R200). -/
def gate (currentControl toggledOff socketReq : Bool) (fsmCmd : Cmd) : Cmd :=
  if currentControl then fsmCmd
  else if toggledOff then (if socketReq then .stop else .start)
  else (if socketReq then .start else .stop)

/-- The rest of a step once the button is dealt with: toggle, FSM, gate, output (44_control.md R195 to R201). -/
def State.control (s : State) (t m : Nat) (press : Bool) : State :=
  let cc := currentControlNext press s.ctl.currentControl
  let f := fsm s.cfg s.ctl.cstate s.ctl.dwellStart t m
  let cmd := gate cc (toggledOff press s.ctl.currentControl) s.ctl.socketReq f.cmd
  { s with
    ctl := { s.ctl with currentControl := cc, cstate := f.cstate, dwellStart := f.dwellStart } }.emit cmd

/-- `BTN_UP_TICK <- t` (44_control.md R193, R194). -/
def State.buttonUp (s : State) (t : Nat) : State := { s with ctl := { s.ctl with btnUpTick := t } }

/-- A guarded step: the event is drained and the hold-detector held at reset (44_control.md R193). -/
def State.guardedStep (s : State) (t m : Nat) : State :=
  ((s.consumeEffect 0).buttonUp t).control t m false

/-- A step after the guard that finds the button held long enough: diagnostic mode is entered (44_control.md R194). -/
def State.enterDiag (s : State) (m : Nat) : State :=
  { s with ctl := { s.ctl with diagMode := true } }.emit (.value m)

/-- `GUARD_DONE <- 1`: the first step after the guard ends it for good (44_control.md R193). -/
def State.endGuard (s : State) : State := { s with ctl := { s.ctl with guardDone := true } }

/-- A step after the guard (44_control.md R193 to R201). -/
def State.openStep (s : State) (t m : Nat) : State :=
  let s := s.endGuard
  if s.holdElapsed t then s.enterDiag m
  else
    let s := if s.level 0 then s else s.buttonUp t
    (s.consumeEffect 0).control t m (s.consumeResult 0)

/-- `CTL.STEP` (44_control.md R190, R202): one snapshot `t` of `TICK` and one magnitude `m` serve the whole step (R191). -/
def execCtlStep (s : State) : Host.Outcome State Fault Refusal :=
  s.loopOp fun s =>
    let t := s.clk.tick
    let m := s.flt.magnitude s.cfg
    if s.ctl.diagMode then (s.emit (.value m)).drive 0
    else if s.inGuard t then (s.guardedStep t m).drive 0
    else (s.openStep t m).drive 0

end Sys2Proof.Machine
end

