-- ==== Sys2Proof/Machine/System.lean ====
section
/-!
DEFINITION. The system operation, SYS (45_system.md).
-/

namespace Sys2Proof.Machine

/-- `SYS.WAIT` (45_system.md R241): with `WAKE` = 1 it completes with `R <- 0`; otherwise the sequencer holds, no state
is touched, and the wait completes when the hold is lifted (`State.endHold`; log 12, log 13). -/
def execSysWait (s : State) : Host.Outcome State Fault Refusal :=
  s.loopOp fun s => if s.pinWake then s.drive 0 else { s with hold := true }

end Sys2Proof.Machine
end

