-- ==== Sys2Proof/Machine/Dispatch.lean ====
section
/-!
DEFINITION. One arm for each operation of 30_encoding.md R86.
-/

namespace Sys2Proof.Machine

def exec (i : Instr) (s : State) : Host.Outcome State Fault Refusal :=
  match i with
  | .sysWait => Sys2Proof.Machine.execSysWait s
  | .clkTick => Sys2Proof.Machine.execClkTick s
  | .clkNow => Sys2Proof.Machine.execClkNow s
  | .clkElapsed => Sys2Proof.Machine.execClkElapsed s
  | .clkHasElapsed => Sys2Proof.Machine.execClkHasElapsed s
  | .fltSample => Sys2Proof.Machine.execFltSample s
  | .fltReading => Sys2Proof.Machine.execFltReading s
  | .fltMagnitude => Sys2Proof.Machine.execFltMagnitude s
  | .dbUpdate k => Sys2Proof.Machine.execDbUpdate k s
  | .dbGetState k => Sys2Proof.Machine.execDbGetState k s
  | .evPoll k => Sys2Proof.Machine.execEvPoll k s
  | .evConsume k => Sys2Proof.Machine.execEvConsume k s
  | .ctlStep => Sys2Proof.Machine.execCtlStep s

end Sys2Proof.Machine
end

