-- ==== Sys2Proof/WellFormed.lean ====
section
/-!
DEFINITION. Which parameter records are instances of CVS-CORE (00_scope.md R9).

A model refuses a `cfg` that breaks a constraint (R9; 93_implementation_defined.md U3): the step
does, with `invalidCfg`. The relations that R8 itself fixes between rows (`MAX`, `MID`, `DB_CNT_W`) and the
range of `BOOT_TICK`, a value of `TICK` (10_state.md R22, R16), are checked with them: DEDUCED, log 5.

No check of an operation is left to make here: the only operand of a word is a 2-bit index (30_encoding.md R82), which
the type `InputIdx` bounds, and an index `>= NUM_INPUTS` is a defined no-operation (R96). Every term of `Instr` is well formed.
-/

namespace Sys2Proof

/-- R9(a): `N = 2^LOG2N`, `LOG2N >= 1`. -/
def Cfg.ringOk (c : Cfg) : Bool := c.n == 2 ^ c.log2N && decide (1 ≤ c.log2N)

/-- R9(b): `1 <= NUM_INPUTS <= 4`. -/
def Cfg.inputsOk (c : Cfg) : Bool := decide (1 ≤ c.numInputs) && decide (c.numInputs ≤ 4)

/-- R9(c): `LOW < HIGH <= MAX`. -/
def Cfg.thresholdsOk (c : Cfg) : Bool := decide (c.low < c.high) && decide (c.high ≤ c.max)

/-- R9(d): `0 <= ZERO_REF <= MAX`. -/
def Cfg.zeroRefOk (c : Cfg) : Bool := decide (c.zeroRef ≤ c.max)

/-- R9(e): each duration is `< 2^(TICK_W-1)`. -/
def Cfg.durationsOk (c : Cfg) : Bool :=
  decide (c.dwellTicks < 2 ^ (c.tickW - 1)) && decide (c.offTicks < 2 ^ (c.tickW - 1)) &&
    decide (c.guardTicks < 2 ^ (c.tickW - 1)) && decide (c.diagHoldTicks < 2 ^ (c.tickW - 1))

/-- R9(f): `SAMPLE_W <= TICK_W`. -/
def Cfg.widthsOk (c : Cfg) : Bool := decide (c.sampleW ≤ c.tickW)

/-- R9(g): `DB_THRESH >= 1` and `DB_THRESH < 2^DB_CNT_W`. -/
def Cfg.debounceOk (c : Cfg) : Bool := decide (1 ≤ c.dbThresh) && decide (c.dbThresh < 2 ^ c.dbCntW)

/-- R9(h): `DB_DEFAULT[i] = ACTIVE_LOW[i]` for every input `i`. -/
def Cfg.defaultsOk (c : Cfg) : Bool :=
  (List.finRange 4).all fun i => decide (c.numInputs ≤ i.val) || c.dbDefault[i] == c.activeLow[i]

/-- The relations R8 fixes: `MAX = 2^SAMPLE_W - 1`, `MID = 2^(SAMPLE_W-1)` and
`DB_CNT_W = ceil(log2(DB_THRESH+1))`, that is `2^(DB_CNT_W-1) <= DB_THRESH` beside R9(g). -/
def Cfg.derivedOk (c : Cfg) : Bool :=
  c.max == 2 ^ c.sampleW - 1 && c.mid == 2 ^ (c.sampleW - 1) && decide (2 ^ (c.dbCntW - 1) ≤ c.dbThresh)

/-- `BOOT_TICK` is a value of `TICK` (10_state.md R22, 00_scope.md R16). -/
def Cfg.bootOk (c : Cfg) : Bool := decide (c.bootTick < 2 ^ c.tickW)

/-- The records that are instances: every constraint of R9, with the relations of R8 and the range of `BOOT_TICK`. No other record runs, and
`CFG_SMALL` is none: its `TICK_W` = 8 and `SAMPLE_W` = 10 break R9(f), whatever R10 says of it (log 5). -/
def Cfg.valid (c : Cfg) : Bool :=
  c.ringOk && c.inputsOk && c.thresholdsOk && c.zeroRefOk && c.durationsOk && c.widthsOk &&
    c.debounceOk && c.defaultsOk && c.derivedOk && c.bootOk

end Sys2Proof
end

