-- ==== Sys2Proof/Machine/Step.lean ====
section
/-!
DEFINITION. One step: the presentation at the port is taken (10_state.md R45, 30_encoding.md R80) and the next one comes to it.
CVS-CORE has no program counter and fetches nothing (10_state.md R21); what stands in place of a fetch is the operation word
at the port. The order of the checks is log 17.
-/

namespace Sys2Proof.Machine

/-- After an operation that has a next state, the next presentation comes to the port. -/
def advanceOutcome : Host.Outcome State Fault Refusal → Host.Outcome State Fault Refusal
  | .next s => .next s.advance
  | .fault f => .fault f
  | .refused r => .refused r

/-- One step of the machine. -/
def step (s : State) : Host.Outcome State Fault Refusal :=
  if !s.cfg.valid then .refused .invalidCfg
  else if s.port.rst then .next s.applyReset.advance
  else if !s.port.opValid then .next s.idleOp.advance
  else
    match s.fetch with
    | .error (.reservedOp _) => .refused .reservedOp
    | .ok i => advanceOutcome (exec i s)

/-- `s` with the word `w` presented at the operation port by the agent it belongs to, so that the next step runs it:
`RST` = 0, `OP_VALID` = 1, `OP` = `w`, and `CTX` = 1 for `CLK.TICK`, 0 for every other word (30_encoding.md R97; log 10).
Operations are one 8-bit word (R80); no operand word follows it. -/
def State.withFetchWord (s : State) (_nbits w : Nat) : State :=
  { s with
    port := { s.port with
      rst := false
      opValid := true
      ctx := decide (BitVec.ofNat 8 w = encode .clkTick)
      op := BitVec.ofNat 8 w } }

end Sys2Proof.Machine
end

