-- ==== Sys2Proof/Machine/Invariant.lean ====
section
/-!
DEFINITION. What holds in every state reachable from reset (10_state.md R53; the widths of R16 and R43).
-/

namespace Sys2Proof.Machine

/-- `TICK` is a `TICK_W`-bit value (10_state.md R22). -/
def Clk.inv (k : Clk) (c : Cfg) : Prop := k.tick < 2 ^ c.tickW

/-- The ring is in canonical form within its `N` slots of `SAMPLE_W` bits (20_memory.md R60), the cursor is a slot index
(R63), and R53(a): before the first lap `MEAN` is `MID` and the slots from the cursor on are as reset left them; after
it `MEAN` is the mean of the whole window. -/
def Flt.inv (f : Flt) (c : Cfg) : Prop :=
  f.hist.wf ∧ (∀ cell ∈ f.hist, cell.1 < c.n ∧ cell.2 < 2 ^ c.sampleW) ∧ f.cursor < c.n ∧
  (f.full = false → f.mean = c.mid ∧ ∀ k, f.cursor ≤ k → f.hist.read k = Memory.unlisted) ∧
  (f.full = true → f.mean = f.hist.windowMean c)

/-- R53(b) and (c): the counter never exceeds `DB_THRESH`; an input that is not initialized has committed nothing. -/
def Db.inv (d : Db) (c : Cfg) : Prop :=
  ∀ i : InputIdx, d.cnt[i] ≤ c.dbThresh ∧
    (d.initialized[i] = false → d.validated[i] = false ∧ d.cnt[i] < c.dbThresh)

/-- An input that is not yet initialized stays in `EV_IDLE` (43_input_event.md R172 corner case 3). -/
def evInv (d : Db) (e : Vector EvState 4) : Prop :=
  ∀ i : InputIdx, d.initialized[i] = false → e[i] = .idle

/-- The timestamps are `TICK_W`-bit values, and while the guard has not ended `CURRENT_CONTROL` is 1 and `DIAG_MODE` is 0,
which gives R53(e) (60_exceptions.md R259). -/
def Ctl.inv (k : Ctl) (c : Cfg) : Prop :=
  k.dwellStart < 2 ^ c.tickW ∧ k.btnUpTick < 2 ^ c.tickW ∧
  (k.guardDone = false → k.currentControl = true ∧ k.diagMode = false)

/-- The places of the per-input arrays that are no hardware keep their reset values (log 7). -/
def absentInputsInv (s : State) : Prop :=
  ∀ i : InputIdx, s.cfg.numInputs ≤ i.val →
    s.db.lastRaw[i] = false ∧ s.db.validated[i] = false ∧ s.db.initialized[i] = false ∧
    s.db.cnt[i] = 0 ∧ s.evState[i] = .idle

/-- The invariant of the machine. -/
def State.inv (s : State) : Prop :=
  s.cfg.valid = true ∧ s.clk.inv s.cfg ∧ s.flt.inv s.cfg ∧ s.db.inv s.cfg ∧ evInv s.db s.evState ∧
  s.ctl.inv s.cfg ∧ absentInputsInv s

end Sys2Proof.Machine
end

