-- ==== Sys2Proof/Machine/Pseudo.lean ====
section
/-!
DEFINITION. The pseudo-operations of the assembler and of the test notation (30_encoding.md R101; 45_system.md R242, R243),
and the presentations that carry a list of operations to the port. Pseudo-operations are expanded outside the
block and never presented to it.
-/

namespace Sys2Proof.Machine

/-- The inputs `0 .. n-1` of an instance with `NUM_INPUTS` = `n`. -/
def inputsBelow (n : Nat) : List InputIdx := (List.finRange 4).filter fun i => decide (i.val < n)

/-- `PASS` for `NUM_INPUTS` = `n` (45_system.md R242). -/
def passOps (n : Nat) : List Instr :=
  .fltSample :: ((inputsBelow n).map .dbUpdate ++ (inputsBelow n).map .evPoll ++ [.ctlStep])

/-- `TICKS n` (30_encoding.md R101, 45_system.md R243). -/
def ticksOps (n : Nat) : List Instr := List.replicate n .clkTick

/-- The presentation of an operation by the agent it belongs to; the pins and buses are as `pins` has them. -/
def InPort.present (pins : InPort) (i : Instr) : InPort :=
  { pins with rst := false, opValid := true, ctx := i.tickContext, op := encode i }

/-- The sequencer, the timer and the environment are about to make these presentations, first one first (log 8, log 10). -/
def State.load (s : State) (ps : List InPort) : State :=
  { s with port := ps.headD .idle, pending := ps.tail }

end Sys2Proof.Machine
end

