-- ==== Sys2Proof/Safety.lean ====
section
/-!
DEFINITION. What counts as a safe run, and the frames the statements are written in. CVS-CORE never halts (00_scope.md R15) and
has no fault (60_exceptions.md R250); a run of the model stops only where the spec gives a presentation no behaviour: a
reserved word (30_encoding.md R90), a wrong context (R97) or a record that is no instance (00_scope.md R9).
-/

namespace Sys2Proof.Machine

/-- A presentation of a conforming agent: reset, nothing, or a defined operation in its context (30_encoding.md R90, R97). -/
def InPort.legal (p : InPort) : Bool :=
  p.rst || !p.opValid ||
    match decode p.op with
    | .ok i => p.ctx == i.tickContext
    | .error _ => false

/-- An instance whose agents conform in everything they still present. -/
def State.conforming (s : State) : Bool := s.cfg.valid && s.port.legal && s.pending.all InPort.legal

/-- All elements of the complete state of 10_state.md R43. -/
def State.elements (s : State) : Clk × Flt × Db × Vector EvState 4 × Ctl :=
  (s.clk, s.flt, s.db, s.evState, s.ctl)

/-- What no operation touches: the instance's parameters (10_state.md R41) and the agents' presentations. -/
def OutsideKept (s t : State) : Prop := t.cfg = s.cfg ∧ t.port = s.port ∧ t.pending = s.pending

/-- The operation ended with `v` on result bus `R`, recorded (10_state.md R52), and holds nothing. For an operation that follows a hold, that
the hold is over and the wait's 0 recorded before `v` is the model's form (`State.endHold`; log 12, log 13, log 15). -/
def EndedWith (s t : State) (v : Nat) : Prop :=
  t.out.r = v ∧ t.record.results = s.endHold.record.results ++ [v] ∧ t.hold = false

/-- The operation drove `NONE` on the command port and recorded no command (10_state.md R49). -/
def NoCommand (s t : State) : Prop := t.out.cmd = .none ∧ t.record.commands = s.record.commands

/-- The operation emitted the one command `c` (44_control.md R201, R203(f)). -/
def Emitted (s t : State) (c : Cmd) : Prop := t.out.cmd = c ∧ t.record.commands = s.record.commands ++ [c]

/-- The operation ended with the result `v`, consumed no sample, emitted nothing and changed no state element. -/
def AnsweredOnly (s t : State) (v : Nat) : Prop :=
  t.elements = s.elements ∧ OutsideKept s t ∧ EndedWith s t v ∧ NoCommand s t ∧ t.out.smpAck = false

/-- The exact modular distance `(t - s) mod 2^TICK_W` that 40_clock.md R115 names, as an integer residue. -/
def ticksSince (c : Cfg) (t start : Nat) : Int := ((t : Int) - start) % (2 ^ c.tickW : Nat)

/-- The startup guard is active: `GUARD_DONE` = 0 and fewer than `GUARD_TICKS` ticks since `BOOT_TICK` (44_control.md R193). -/
def GuardActive (s : State) : Prop :=
  s.ctl.guardDone = false ∧ ticksSince s.cfg s.clk.tick s.cfg.bootTick < s.cfg.guardTicks

/-- The button level is 1 and at least `DIAG_HOLD_TICKS` have passed since it was last seen up (44_control.md R194). -/
def HeldLong (s : State) : Prop :=
  s.level 0 = true ∧ s.cfg.diagHoldTicks ≤ ticksSince s.cfg s.clk.tick s.ctl.btnUpTick

/-- A step that reaches the FSM: neither in diagnostic mode nor entering it (44_control.md R190 to R194). -/
def FsmRuns (s : State) : Prop := s.ctl.diagMode = false ∧ (GuardActive s ∨ ¬HeldLong s)

end Sys2Proof.Machine
end

