-- ==== Sys2Proof/Certificates/Slice0/Obligations.lean ====
section
/-!
DEFINITION. The statements for the provers. Each docstring names the rule of spec/ it formalises, or the log
entry of the model's own choice that it is about. A statement about an operation quantifies over every state, so over every
parameter record too, unless it says otherwise.
-/

open Sys2Proof Sys2Proof.Machine

/-! ## Encoding -/

/-- 30_encoding.md R86, R87, R90: the decoder reads an operation from exactly the word the encoder gives it, for all 256
words and every operation with every index. -/
def Obligations.DecodeAndEncodeAgree : Prop :=
  ∀ (op : OpWord) (i : Instr), decode op = .ok i ↔ encode i = op

/-- 30_encoding.md R86: the words of the table, the format I words at both ends of their ranges among them. -/
def Obligations.TableWordsDecode : Prop :=
  decode 0b00000001 = .ok .sysWait ∧ decode 0b00010000 = .ok .clkTick ∧ decode 0b00010001 = .ok .clkNow ∧
  decode 0b00010010 = .ok .clkElapsed ∧ decode 0b00010011 = .ok .clkHasElapsed ∧
  decode 0b00100000 = .ok .fltSample ∧ decode 0b00100001 = .ok .fltReading ∧
  decode 0b00100010 = .ok .fltMagnitude ∧ decode 0b00110000 = .ok (.dbUpdate 0) ∧
  decode 0b00110011 = .ok (.dbUpdate 3) ∧ decode 0b00110100 = .ok (.dbGetState 0) ∧
  decode 0b00110111 = .ok (.dbGetState 3) ∧ decode 0b01000000 = .ok (.evPoll 0) ∧
  decode 0b01000011 = .ok (.evPoll 3) ∧ decode 0b01000100 = .ok (.evConsume 0) ∧
  decode 0b01000111 = .ok (.evConsume 3) ∧ decode 0b01010000 = .ok .ctlStep

/-- 30_encoding.md R87: a word decodes to an operation exactly when it passes the test `(OP and mask) = match` of a row, the
operation is that row's, and no word passes the test of two rows. -/
def Obligations.DecodingFollowsMaskAndMatch : Prop :=
  (∀ (op : OpWord) (i : Instr), decode op = .ok i → ∃ row ∈ opcodeTable, row.hits op = true ∧ row.mnemonic = i.mnemonic) ∧
  (∀ (op : OpWord), ∀ row ∈ opcodeTable, row.hits op = true → ∃ i, decode op = .ok i ∧ i.mnemonic = row.mnemonic) ∧
  (∀ (op : OpWord), ∀ row ∈ opcodeTable, ∀ row' ∈ opcodeTable, row.hits op = true → row'.hits op = true → row = row')

/-- 30_encoding.md R90, R95: the reserved words are exactly those of R90's list, and the model refuses each with `ReservedOp`. -/
def Obligations.ReservedWordsAreRefused : Prop :=
  (∀ op : OpWord,
    (op.toNat = 0x00 ∨ (0x02 ≤ op.toNat ∧ op.toNat ≤ 0x0F) ∨ (0x14 ≤ op.toNat ∧ op.toNat ≤ 0x1F) ∨
      (0x23 ≤ op.toNat ∧ op.toNat ≤ 0x2F) ∨ (0x38 ≤ op.toNat ∧ op.toNat ≤ 0x3F) ∨
      (0x48 ≤ op.toNat ∧ op.toNat ≤ 0x4F) ∨ (0x51 ≤ op.toNat ∧ op.toNat ≤ 0x5F) ∨ 0x60 ≤ op.toNat) ↔
    decode op = .error (.reservedOp op)) ∧
  ∀ s : State, s.cfg.valid = true → s.port.rst = false → s.port.opValid = true →
    (∀ i, decode s.port.op ≠ .ok i) → step s = .refused .reservedOp

/-- 30_encoding.md R97, R95: `CLK.TICK` is legal with `CTX` = 1 only and every other operation with `CTX` = 0 only; in its own
context every operation has a next state, whatever the state, the operands and the pins (60_exceptions.md R250); in the
other the model refuses. That a `SYS.WAIT` with `WAKE` = 0 (45_system.md R241) has a next state, one in which it holds, is the model's
choice, log 12: 93_implementation_defined.md I17 calls a wait with no wake stuck. -/
def Obligations.ContextAloneDecidesRefusal : Prop :=
  ∀ (i : Instr) (s : State),
    (s.port.ctx = decide (i = .clkTick) → ∃ t, exec i s = .next t) ∧
    (s.port.ctx ≠ decide (i = .clkTick) → exec i s = .refused .wrongContext)

/-! ## The step, reset and the instance -/

/-- What stands in place of a fetch (10_state.md R21, R45): with an operation presented, the step is that operation's
execution, after which the next presentation comes to the port (log 8, log 9). -/
def Obligations.StepRunsThePresentedOperation : Prop :=
  ∀ (s : State) (i : Instr),
    s.cfg.valid = true → s.port.rst = false → s.port.opValid = true → decode s.port.op = .ok i →
    (∀ u, exec i s = .next u →
      step s = .next { u with port := u.pending.headD InPort.idle, pending := u.pending.tail }) ∧
    (∀ r, exec i s = .refused r → step s = .refused r)

/-- 70_reset_and_hazards.md R290, R291: under `RST` nothing executes, whatever is presented, and every state element takes
its reset value (`HIST`, which R291 leaves unspecified, is not spoken of). `TICK` and `BTN_UP_TICK` at `BOOT_TICK` for every
`BOOT_TICK` is the model's reading of 10_state.md R22, R38, R43 against the 0 of R291, log 6. That a hold ends is log 14, that the next
presentation comes to the port logs 8 and 9, that the record is kept log 15: the model's choices. -/
def Obligations.ResetRestoresEveryElement : Prop :=
  ∀ s : State, s.cfg.valid = true → s.port.rst = true →
    ∃ t, step s = .next t ∧ t.cfg = s.cfg ∧ t.record = s.record ∧
      t.clk = ⟨s.cfg.bootTick, false⟩ ∧
      t.flt.cursor = 0 ∧ t.flt.full = false ∧ t.flt.mean = s.cfg.mid ∧
      (∀ i : InputIdx, t.db.lastRaw[i] = false ∧ t.db.validated[i] = false ∧ t.db.initialized[i] = false ∧
        t.db.cnt[i] = 0 ∧ t.evState[i] = .idle) ∧
      t.ctl = ⟨.idle, 0, true, false, false, s.cfg.bootTick, false⟩ ∧ t.out = ⟨0, .none, false⟩ ∧
      t.hold = false ∧ t.port = s.pending.headD InPort.idle ∧ t.pending = s.pending.tail

/-- 70_reset_and_hazards.md R291: the state after reset of the reference instance, with the outputs at reset. -/
def Obligations.ResetStateHoldsTheTable : Prop :=
  State.reset.cfg = Cfg.ref ∧ State.reset.clk.tick = 0 ∧ State.reset.clk.tickPin = false ∧
  State.reset.flt.cursor = 0 ∧ State.reset.flt.full = false ∧ State.reset.flt.mean = 512 ∧
  (∀ i : InputIdx, State.reset.db.lastRaw[i] = false ∧ State.reset.db.validated[i] = false ∧
    State.reset.db.initialized[i] = false ∧ State.reset.db.cnt[i] = 0 ∧ State.reset.evState[i] = .idle) ∧
  State.reset.ctl.cstate = .idle ∧ State.reset.ctl.dwellStart = 0 ∧ State.reset.ctl.currentControl = true ∧
  State.reset.ctl.diagMode = false ∧ State.reset.ctl.guardDone = false ∧ State.reset.ctl.btnUpTick = 0 ∧
  State.reset.ctl.socketReq = false ∧
  State.reset.out.cmd = .none ∧ State.reset.out.smpAck = false ∧ State.reset.out.r = 0

/-- 70_reset_and_hazards.md R292: after reset the reading is `MID`, no input's level is 1, the magnitude is the distance of
`MID` from `ZERO_REF`, and with that not above `HIGH` and a guard of at least one tick the first `CTL.STEP` finds the guard
active, stays in `ST_IDLE` and emits `STOP`. For `BOOT_TICK` other than 0 the last clause rests on the model's reading, log 6, by which
`TICK` and `BTN_UP_TICK` reset to `BOOT_TICK` (00_scope.md R8, 10_state.md R22, R38, R43), where R291 reads 0 for both. -/
def Obligations.ResetIsObservedAsIdleAndStopped : Prop :=
  ∀ c : Cfg, c.valid = true →
    (State.resetOf c).flt.reading c = c.mid ∧
    ((State.resetOf c).flt.magnitude c : Int) = |(c.mid : Int) - c.zeroRef| ∧
    (∀ i : InputIdx, i.val < c.numInputs → (State.resetOf c).level i = false) ∧
    (0 < c.guardTicks → (State.resetOf c).flt.magnitude c ≤ c.high →
      ∃ t, exec .ctlStep (State.resetOf c) = .next t ∧ Emitted (State.resetOf c) t .stop ∧
        t.ctl = (State.resetOf c).ctl ∧ t.evState = (State.resetOf c).evState)

/-- 00_scope.md R9 (a) to (h): a step under a record that breaks a constraint is refused, and the records that meet them all are
exactly those below, the reference configuration among them. With R9 stand the relations R8 gives (`MAX`, `MID`, and `DB_CNT_W` as the
ceiling of a logarithm) and the range of `BOOT_TICK`, the model's reading, log 5. `CFG_SMALL` breaks R9(f) and no other
constraint, against R10's word that it meets all: it is refused (log 5). -/
def Obligations.OnlyInstancesRun : Prop :=
  (∀ s : State, s.cfg.valid = false → step s = .refused .invalidCfg) ∧
  (∀ c : Cfg, c.valid = true ↔
    (c.n = 2 ^ c.log2N ∧ 1 ≤ c.log2N) ∧ (1 ≤ c.numInputs ∧ c.numInputs ≤ 4) ∧ (c.low < c.high ∧ c.high ≤ c.max) ∧
    c.zeroRef ≤ c.max ∧
    (c.dwellTicks < 2 ^ (c.tickW - 1) ∧ c.offTicks < 2 ^ (c.tickW - 1) ∧
      c.guardTicks < 2 ^ (c.tickW - 1) ∧ c.diagHoldTicks < 2 ^ (c.tickW - 1)) ∧
    c.sampleW ≤ c.tickW ∧ (1 ≤ c.dbThresh ∧ c.dbThresh < 2 ^ c.dbCntW) ∧
    (∀ i : InputIdx, i.val < c.numInputs → c.dbDefault[i] = c.activeLow[i]) ∧
    c.max = 2 ^ c.sampleW - 1 ∧ c.mid = 2 ^ (c.sampleW - 1) ∧ 2 ^ (c.dbCntW - 1) ≤ c.dbThresh ∧
    c.bootTick < 2 ^ c.tickW) ∧
  Cfg.ref.valid = true ∧
  Cfg.small.valid = false ∧ Cfg.small.widthsOk = false ∧ ({ Cfg.small with tickW := Cfg.small.sampleW } : Cfg).valid = true

/-! ## SYS -/

/-- 45_system.md R241: a `SYS.WAIT` that samples `WAKE` = 1 completes with `R` = 0 and changes no state. -/
def Obligations.SysWaitCompletesOnWake : Prop :=
  ∀ s : State, s.port.ctx = false → s.port.wake = true →
    ∃ t, exec .sysWait s = .next t ∧ AnsweredOnly s t 0

/-- 45_system.md R241, in the model's form (log 12): with `WAKE` = 0 the sequencer holds, no state is touched and the
operation has no result yet. -/
def Obligations.SysWaitHoldsWithoutWake : Prop :=
  ∀ s : State, s.port.ctx = false → s.port.wake = false →
    ∃ t, exec .sysWait s = .next t ∧ t.elements = s.elements ∧ OutsideKept s t ∧ t.hold = true ∧
      t.record.results = s.endHold.record.results ∧ NoCommand s t ∧ t.out.smpAck = false

/-- 45_system.md R241 with its corner cases (b) and (c), 60_exceptions.md R264, in the model's form (log 12): while nothing is presented
and `WAKE` stays 0 the hold goes on for ever, and all state survives it. And what a step does in which no operation is presented, held or not and
whatever the pins carry (10_state.md R45, 20_memory.md R67(c); log 11): it changes no state element, emits nothing, and drives nothing;
`WAKE` = 1 ends a hold in progress and the wait's result 0 is recorded (log 13); nothing else ends or begins one. -/
def Obligations.HoldLastsWhileNothingWakes : Prop :=
  (∀ (n : Nat) (s : State), s.cfg.valid = true → s.hold = true →
    (∀ p ∈ s.port :: s.pending, p.rst = false ∧ p.opValid = false ∧ p.wake = false) →
    ∃ t, Sys2Proof.core.run n s = .next t ∧ t.hold = true ∧ t.elements = s.elements ∧ t.record = s.record) ∧
  ∀ s : State, s.cfg.valid = true → s.port.rst = false → s.port.opValid = false →
    ∃ t, step s = .next t ∧ t.elements = s.elements ∧ t.cfg = s.cfg ∧ t.out = ⟨0, .none, false⟩ ∧
      t.record.commands = s.record.commands ∧ t.port = s.pending.headD InPort.idle ∧ t.pending = s.pending.tail ∧
      (s.hold = true → s.port.wake = true → t.hold = false ∧ t.record.results = s.record.results ++ [0]) ∧
      (s.hold = false ∨ s.port.wake = false → t.hold = s.hold ∧ t.record.results = s.record.results)

/-- 60_exceptions.md R256, 45_system.md R241, in the model's form (log 13): a `CLK.TICK` during a hold executes as ever and ends the
hold, so the wait's result 0 and the tick's are recorded. -/
def Obligations.TickEndsHold : Prop :=
  ∀ s : State, s.port.ctx = true → s.hold = true →
    ∃ t, exec .clkTick s = .next t ∧ t.hold = false ∧
      t.clk.tick = (s.clk.tick + 1) % 2 ^ s.cfg.tickW ∧ t.clk.tickPin = !s.clk.tickPin ∧
      t.record.results = s.record.results ++ [0, 0]

/-! ## CLK -/

/-- 40_clock.md R110, "the sole mutation point" of `TICK` included. -/
def Obligations.ClkTickAdvancesTheCounter : Prop :=
  decode 0x10 = .ok .clkTick ∧
  ∀ s : State,
    (s.port.ctx = true →
      ∃ t, exec .clkTick s = .next t ∧
        t.clk.tick = (s.clk.tick + 1) % 2 ^ s.cfg.tickW ∧ t.clk.tickPin = !s.clk.tickPin ∧
        t.flt = s.flt ∧ t.db = s.db ∧ t.evState = s.evState ∧ t.ctl = s.ctl ∧
        OutsideKept s t ∧ EndedWith s t 0 ∧ NoCommand s t ∧ t.out.smpAck = false) ∧
    (s.port.ctx = false → exec .clkTick s = .refused .wrongContext) ∧
    ∀ (i : Instr) (t : State), i ≠ .clkTick → exec i s = .next t → t.clk.tick = s.clk.tick

/-- 40_clock.md R111. -/
def Obligations.ClkNowReadsTheCounter : Prop :=
  decode 0x11 = .ok .clkNow ∧
  ∀ s : State, s.port.ctx = false → ∃ t, exec .clkNow s = .next t ∧ AnsweredOnly s t s.clk.tick

/-- 40_clock.md R112: the difference is the exact integer's residue; corner cases (a) to (d) are stated with it, (c) as: when `TICK` is
`k` ticks past `A`, however large `k` is, the result is `k` modulo the period. -/
def Obligations.ClkElapsedIsTheModularDifference : Prop :=
  decode 0x12 = .ok .clkElapsed ∧
  ∀ s : State, s.port.ctx = false → s.port.a < 2 ^ s.cfg.tickW → s.clk.tick < 2 ^ s.cfg.tickW →
    ∃ (t : State) (v : Nat), exec .clkElapsed s = .next t ∧ AnsweredOnly s t v ∧
      (v : Int) = ticksSince s.cfg s.clk.tick s.port.a ∧
      (s.port.a = s.clk.tick → v = 0) ∧
      (s.clk.tick < s.port.a → v = s.clk.tick + 2 ^ s.cfg.tickW - s.port.a) ∧
      (∀ k, s.clk.tick = addW s.cfg.tickW s.port.a k → v = k % 2 ^ s.cfg.tickW) ∧
      (s.port.a = s.clk.tick + 1 → v = 2 ^ s.cfg.tickW - 1)

/-- 40_clock.md R113: the result; corner cases (a) to (d) are stated with it: (c) by the residue, which the deadline past the wrap
does not disturb, (d) as: `k` ticks past `A` the answer is that of `k` modulo the period, so it is 0 again when `TICK` comes round to `A`. -/
def Obligations.ClkHasElapsedComparesTheDifference : Prop :=
  decode 0x13 = .ok .clkHasElapsed ∧
  ∀ s : State, s.port.ctx = false → s.port.a < 2 ^ s.cfg.tickW → s.port.b < 2 ^ s.cfg.tickW →
    ∃ (t : State) (v : Nat), exec .clkHasElapsed s = .next t ∧ AnsweredOnly s t v ∧
      v = (if (s.port.b : Int) ≤ ticksSince s.cfg s.clk.tick s.port.a then 1 else 0) ∧
      (s.port.b = 0 → v = 1) ∧
      (s.port.b = 2 ^ s.cfg.tickW - 1 → s.clk.tick < 2 ^ s.cfg.tickW →
        (v = 1 ↔ (s.clk.tick + 1) % 2 ^ s.cfg.tickW = s.port.a)) ∧
      (∀ k, s.clk.tick = addW s.cfg.tickW s.port.a k →
        v = (if s.port.b ≤ k % 2 ^ s.cfg.tickW then 1 else 0))

/-- 40_clock.md R114 (a), (c), (d) and 70_reset_and_hazards.md R304: the clock's laws, wraparound included: after `k` ticks a
deadline `d` reads as reached exactly when `d` is at most `k` modulo the period, and no result leaves the range. -/
def Obligations.ClockLawsAcrossWraparound : Prop :=
  ∀ (c : Cfg) (t s d k : Nat),
    (hasElapsedAt c t s d = true ↔ (d : Int) ≤ ticksSince c t s) ∧
    (elapsedAt c t s : Int) = ticksSince c t s ∧
    elapsedAt c (addW c.tickW s k) s = k % 2 ^ c.tickW ∧
    (hasElapsedAt c (addW c.tickW s k) s d = true ↔ d ≤ k % 2 ^ c.tickW) ∧
    elapsedAt c t s < 2 ^ c.tickW

/-- 45_system.md R243 (the spec's own inference from 40_clock.md R110), R114(b), 20_memory.md R67(a): `TICKS n` advances `TICK` by `n` modulo `2^TICK_W` and
complements `TICK_PIN` `n` times, and a `CLK.ELAPSED` after fewer than `2^TICK_W` ticks answers their number. -/
def Obligations.ElapsedCountsTheTicksRun : Prop :=
  ∀ (s : State) (pins : InPort) (n : Nat), s.cfg.valid = true → s.clk.tick < 2 ^ s.cfg.tickW →
    ∃ t u : State,
      Sys2Proof.core.run n (s.load (List.replicate n (pins.present .clkTick))) = .next t ∧
      t.clk.tick = (s.clk.tick + n) % 2 ^ s.cfg.tickW ∧
      t.clk.tickPin = (s.clk.tickPin ^^ decide (n % 2 = 1)) ∧
      Sys2Proof.core.run (n + 1)
        (s.load (List.replicate n (pins.present .clkTick) ++
          [({ pins with a := s.clk.tick } : InPort).present .clkElapsed])) = .next u ∧
      u.out.r = n % 2 ^ s.cfg.tickW

/-! ## FLT -/

/-- 41_filter.md R130. The ring is read slot by slot; its list is in the canonical form (an invariant: `InvariantIsKept`). -/
def Obligations.FltSampleConsumesOneSample : Prop :=
  decode 0x20 = .ok .fltSample ∧
  ∀ s : State, s.port.ctx = false → s.port.smpRaw < 2 ^ s.cfg.sampleW → s.flt.hist.wf →
    ∃ t, exec .fltSample s = .next t ∧
      t.clk = s.clk ∧ t.db = s.db ∧ t.evState = s.evState ∧ t.ctl = s.ctl ∧
      OutsideKept s t ∧ EndedWith s t 0 ∧ NoCommand s t ∧ t.out.smpAck = s.port.smpReady ∧
      (s.port.smpReady = false → t.flt = s.flt) ∧
      (s.port.smpReady = true →
        (∀ k, t.flt.hist.read k = if k = s.flt.cursor then s.port.smpRaw else s.flt.hist.read k) ∧
        t.flt.cursor = (if s.flt.cursor = s.cfg.n - 1 then 0 else s.flt.cursor + 1) ∧
        (t.flt.full = true ↔ s.flt.full = true ∨ s.flt.cursor = s.cfg.n - 1) ∧
        (t.flt.full = false → t.flt.mean = s.flt.mean) ∧
        (t.flt.full = true →
          t.flt.mean = (∑ k ∈ Finset.range s.cfg.n,
            if k = s.flt.cursor then s.port.smpRaw else s.flt.hist.read k) / 2 ^ s.cfg.log2N))

/-- 41_filter.md R131; whatever operation executes, in either context, the reading changes only when an `FLT.SAMPLE` consumes a sample and leaves the ring full. -/
def Obligations.FltReadingIsTheMeanOrTheMidpoint : Prop :=
  decode 0x21 = .ok .fltReading ∧
  (∀ s : State, s.port.ctx = false →
    ∃ t, exec .fltReading s = .next t ∧ AnsweredOnly s t (if s.flt.full = true then s.flt.mean else s.cfg.mid)) ∧
  ∀ (i : Instr) (s t : State), exec i s = .next t → t.flt.reading t.cfg ≠ s.flt.reading s.cfg →
    i = .fltSample ∧ s.port.smpReady = true ∧ t.flt.full = true

/-- 41_filter.md R132: the exact distance of the reading from the reference, whichever is larger. -/
def Obligations.FltMagnitudeIsTheDistance : Prop :=
  decode 0x22 = .ok .fltMagnitude ∧
  ∀ s : State, s.port.ctx = false →
    ∃ (t : State) (v : Nat), exec .fltMagnitude s = .next t ∧ AnsweredOnly s t v ∧
      (v : Int) = |(if s.flt.full = true then (s.flt.mean : Int) else s.cfg.mid) - s.cfg.zeroRef|

/-- 41_filter.md R130 corner cases (2), (3), (4), R134(c): from reset, whatever the samples, the reading is `MID` until `N` samples
have been consumed and from then on the floor of the mean of the newest `N` exactly. -/
def Obligations.FilterAveragesTheNewestWindow : Prop :=
  ∀ (c : Cfg) (pins : InPort) (xs : List Nat), c.valid = true → (∀ x ∈ xs, x < 2 ^ c.sampleW) →
    ∃ t : State,
      Sys2Proof.core.run xs.length ((State.resetOf c).load
        (xs.map fun x => ({ pins with smpReady := true, smpRaw := x } : InPort).present .fltSample)) = .next t ∧
      t.flt.reading c =
        if xs.length < c.n then c.mid else (xs.drop (xs.length - c.n)).sum / c.n

/-- 41_filter.md R134(a), (b): a window of equal samples reads as that sample; a window alternating 0 and `MAX` reads as
`2^(SAMPLE_W-1) - 1`, the fraction dropped. -/
def Obligations.FilterConvergesOnAFullWindow : Prop :=
  ∀ (c : Cfg) (pins : InPort), c.valid = true →
    (∀ v, v < 2 ^ c.sampleW →
      ∃ t : State,
        Sys2Proof.core.run c.n ((State.resetOf c).load
          (List.replicate c.n (({ pins with smpReady := true, smpRaw := v } : InPort).present .fltSample))) = .next t ∧
        t.flt.reading c = v) ∧
    ∃ t : State,
      Sys2Proof.core.run c.n ((State.resetOf c).load
        ((List.range c.n).map fun k =>
          ({ pins with smpReady := true, smpRaw := if k % 2 = 0 then 0 else c.max } : InPort).present .fltSample))
        = .next t ∧
      t.flt.reading c = 2 ^ (c.sampleW - 1) - 1

/-- 41_filter.md R134(e), R133 and R130 (the sum cannot overflow): in a state of the invariant with the ring full the mean
lies between two slots of the ring, no mean exceeds `MAX`, and the magnitude is at most the larger of `ZERO_REF` and
`MAX - ZERO_REF`. -/
def Obligations.MeanLiesWithinTheWindow : Prop :=
  ∀ s : State, s.inv →
    (s.flt.full = true → ∃ j k, j < s.cfg.n ∧ k < s.cfg.n ∧
      s.flt.hist.read j ≤ s.flt.mean ∧ s.flt.mean ≤ s.flt.hist.read k) ∧
    s.flt.mean ≤ s.cfg.max ∧
    s.flt.magnitude s.cfg ≤ max s.cfg.zeroRef (s.cfg.max - s.cfg.zeroRef)

/-! ## DB -/

/-- 42_debounce.md R150, R153(d). -/
def Obligations.DbUpdateCountsAndCommits : Prop :=
  (∀ i : InputIdx, decode (0x30 + BitVec.ofNat 8 i.val) = .ok (.dbUpdate i)) ∧
  ∀ (i : InputIdx) (s : State), s.port.ctx = false →
    ∃ t, exec (.dbUpdate i) s = .next t ∧
      t.clk = s.clk ∧ t.flt = s.flt ∧ t.evState = s.evState ∧ t.ctl = s.ctl ∧
      OutsideKept s t ∧ EndedWith s t 0 ∧ NoCommand s t ∧ t.out.smpAck = false ∧
      (s.cfg.numInputs ≤ i.val → t.db = s.db) ∧
      (i.val < s.cfg.numInputs →
        (∀ j : InputIdx, j ≠ i → t.db.lastRaw[j] = s.db.lastRaw[j] ∧ t.db.validated[j] = s.db.validated[j] ∧
          t.db.initialized[j] = s.db.initialized[j] ∧ t.db.cnt[j] = s.db.cnt[j]) ∧
        t.db.lastRaw[i] = s.port.din[i] ∧
        (s.port.din[i] ≠ s.db.lastRaw[i] → t.db.cnt[i] = 0 ∧
          t.db.validated[i] = s.db.validated[i] ∧ t.db.initialized[i] = s.db.initialized[i]) ∧
        (s.port.din[i] = s.db.lastRaw[i] → t.db.cnt[i] = min (s.db.cnt[i] + 1) s.cfg.dbThresh ∧
          (t.db.cnt[i] = s.cfg.dbThresh → t.db.validated[i] = s.port.din[i] ∧ t.db.initialized[i] = true) ∧
          (t.db.cnt[i] ≠ s.cfg.dbThresh →
            t.db.validated[i] = s.db.validated[i] ∧ t.db.initialized[i] = s.db.initialized[i])))

/-- 42_debounce.md R151, R152. -/
def Obligations.DbGetStateReportsTheSettledValue : Prop :=
  (∀ i : InputIdx, decode (0x34 + BitVec.ofNat 8 i.val) = .ok (.dbGetState i)) ∧
  ∀ (i : InputIdx) (s : State), s.port.ctx = false →
    ∃ t, exec (.dbGetState i) s = .next t ∧
      (s.cfg.numInputs ≤ i.val → AnsweredOnly s t 0) ∧
      (i.val < s.cfg.numInputs →
        AnsweredOnly s t
          (if s.db.initialized[i] = true then (if s.db.validated[i] = true then 1 else 0)
           else (if s.cfg.dbDefault[i] = true then 1 else 0)))

/-- 42_debounce.md R153(a), R150 corner case (2): `DB_THRESH + 1` consecutive executions that read the same value commit it,
from any starting state. -/
def Obligations.HeldRawValueIsCommitted : Prop :=
  ∀ (s : State) (pins : InPort) (i : InputIdx), s.cfg.valid = true → i.val < s.cfg.numInputs →
    ∃ t : State,
      Sys2Proof.core.run (s.cfg.dbThresh + 1)
        (s.load (List.replicate (s.cfg.dbThresh + 1) (pins.present (.dbUpdate i)))) = .next t ∧
      t.db.validated[i] = pins.din[i] ∧ t.db.initialized[i] = true

/-- 42_debounce.md R153(b): whatever operation executes, `VALIDATED[j]` changes only in a `DB.UPDATE j` that finds the raw
value unchanged and brings the counter to `DB_THRESH`, and then it becomes that raw value. -/
def Obligations.ValidatedChangesOnlyOnCommit : Prop :=
  ∀ (op : Instr) (s t : State) (j : InputIdx), exec op s = .next t → t.db.validated[j] ≠ s.db.validated[j] →
    op = .dbUpdate j ∧ j.val < s.cfg.numInputs ∧ s.port.din[j] = s.db.lastRaw[j] ∧
    t.db.cnt[j] = s.cfg.dbThresh ∧ t.db.validated[j] = s.port.din[j] ∧ t.db.initialized[j] = true

/-- 30_encoding.md R96: each format I operation with `i >= NUM_INPUTS`. -/
def Obligations.AbsentInputIsANoOperation : Prop :=
  ∀ (i : InputIdx) (s : State), s.port.ctx = false → s.cfg.numInputs ≤ i.val →
    (∃ t, exec (.dbUpdate i) s = .next t ∧ AnsweredOnly s t 0) ∧
    (∃ t, exec (.dbGetState i) s = .next t ∧ AnsweredOnly s t 0) ∧
    (∃ t, exec (.evPoll i) s = .next t ∧ AnsweredOnly s t 0) ∧
    (∃ t, exec (.evConsume i) s = .next t ∧ AnsweredOnly s t 0)

/-! ## EV -/

/-- 43_input_event.md R172, with the level of R171: the complete transition table; corner case (3): in an instance of R9 an input that is
not yet initialized stays in `EV_IDLE`. -/
def Obligations.EvPollFollowsTheTransitionTable : Prop :=
  (∀ i : InputIdx, decode (0x40 + BitVec.ofNat 8 i.val) = .ok (.evPoll i)) ∧
  ∀ (i : InputIdx) (s : State), s.port.ctx = false →
    ∃ t, exec (.evPoll i) s = .next t ∧
      t.clk = s.clk ∧ t.flt = s.flt ∧ t.db = s.db ∧ t.ctl = s.ctl ∧
      OutsideKept s t ∧ EndedWith s t 0 ∧ NoCommand s t ∧ t.out.smpAck = false ∧
      (∀ j : InputIdx, j ≠ i → t.evState[j] = s.evState[j]) ∧
      (s.cfg.numInputs ≤ i.val → t.evState[i] = s.evState[i]) ∧
      (i.val < s.cfg.numInputs →
        t.evState[i] =
          match s.evState[i],
            (if s.db.initialized[i] = true then s.db.validated[i] else s.cfg.dbDefault[i]) ^^ s.cfg.activeLow[i] with
          | .idle, false => .idle
          | .idle, true => .held
          | .held, false => .released
          | .held, true => .held
          | .released, false => .released
          | .released, true => .released) ∧
      (s.cfg.valid = true → s.db.initialized[i] = false → s.evState[i] = .idle → t.evState[i] = .idle)

/-- 43_input_event.md R173, with `consume(i)` of R174. -/
def Obligations.EvConsumeTakesTheEvent : Prop :=
  (∀ i : InputIdx, decode (0x44 + BitVec.ofNat 8 i.val) = .ok (.evConsume i)) ∧
  ∀ (i : InputIdx) (s : State), s.port.ctx = false →
    ∃ t, exec (.evConsume i) s = .next t ∧
      (i.val < s.cfg.numInputs → s.evState[i] = .released →
        t.clk = s.clk ∧ t.flt = s.flt ∧ t.db = s.db ∧ t.ctl = s.ctl ∧
        OutsideKept s t ∧ EndedWith s t 1 ∧ NoCommand s t ∧ t.out.smpAck = false ∧
        t.evState[i] = .idle ∧ ∀ j : InputIdx, j ≠ i → t.evState[j] = s.evState[j]) ∧
      (s.cfg.numInputs ≤ i.val ∨ s.evState[i] ≠ .released → AnsweredOnly s t 0)

/-- 43_input_event.md R175(a): from `EV_IDLE`, polls that see 0 any number of times, 1 at least once and 0 at least once leave one
event; one consume takes it, and no later one finds another before a further fall from 1 to 0 has been polled. -/
def Obligations.OnePressGivesOneEvent : Prop :=
  ∀ a b c d e : Nat,
    (List.replicate a false ++ List.replicate (b + 1) true ++ List.replicate (c + 1) false).foldl EvState.poll .idle
      = .released ∧
    EvState.consumed .released = true ∧
    EvState.consumed ((List.replicate d false ++ List.replicate e true).foldl EvState.poll
      (EvState.afterConsume .released)) = false

/-- 43_input_event.md R175(c), (d): over any sequence of polls (`some level`) and consumes (`none`) from `EV_IDLE`, the events reported never exceed
the falls of the polled level from 1 to 0 (the level before the first poll being 0). -/
def Obligations.EventsNeverExceedCompletedPresses : Prop :=
  ∀ acts : List (Option Bool),
    let final := acts.foldl
      (fun (x : EvState × Bool × Nat × Nat) act =>
        match act with
        | some l => (x.1.poll l, l, x.2.2.1 + (if x.2.1 && !l then 1 else 0), x.2.2.2)
        | none => (x.1.afterConsume, x.2.1, x.2.2.1, x.2.2.2 + (if x.1.consumed then 1 else 0)))
      (EvState.idle, false, 0, 0)
    final.2.2.2 ≤ final.2.2.1

/-! ## CTL -/

/-- 44_control.md R192, R202: diagnostic mode active. -/
def Obligations.CtlStepInDiagnosticModeEmitsTheMagnitude : Prop :=
  ∀ s : State, s.port.ctx = false → s.ctl.diagMode = true →
    ∃ t, exec .ctlStep s = .next t ∧ t.elements = s.elements ∧ OutsideKept s t ∧ EndedWith s t 0 ∧
      Emitted s t (.value (s.flt.magnitude s.cfg)) ∧ t.out.smpAck = false

/-- 44_control.md R193: a guarded step drains the event and holds the detector at reset; the first step after the guard sets
`GUARD_DONE`, and no flag of the button is touched by a guarded step. -/
def Obligations.CtlStepDuringTheGuardDiscardsTheButton : Prop :=
  ∀ s : State, s.port.ctx = false → s.ctl.diagMode = false →
    ∃ t, exec .ctlStep s = .next t ∧ t.clk = s.clk ∧ t.flt = s.flt ∧ t.db = s.db ∧
      OutsideKept s t ∧ EndedWith s t 0 ∧ t.out.smpAck = false ∧
      (GuardActive s →
        t.ctl.guardDone = false ∧ t.ctl.btnUpTick = s.clk.tick ∧ t.ctl.currentControl = s.ctl.currentControl ∧
        t.ctl.diagMode = false ∧
        t.evState[(0 : InputIdx)] = (if s.evState[(0 : InputIdx)] = .released then .idle else s.evState[(0 : InputIdx)]) ∧
        ∀ j : InputIdx, j ≠ 0 → t.evState[j] = s.evState[j]) ∧
      (¬GuardActive s → t.ctl.guardDone = true)

/-- 44_control.md R194: the hold-detector, only when the guard is not active. -/
def Obligations.CtlStepHoldDetector : Prop :=
  ∀ s : State, s.port.ctx = false → s.ctl.diagMode = false → ¬GuardActive s →
    ∃ t, exec .ctlStep s = .next t ∧
      (s.level 0 = false → t.ctl.btnUpTick = s.clk.tick ∧ t.ctl.diagMode = false) ∧
      (s.level 0 = true → ¬HeldLong s → t.ctl.btnUpTick = s.ctl.btnUpTick ∧ t.ctl.diagMode = false) ∧
      (HeldLong s →
        t.ctl = { s.ctl with guardDone := true, diagMode := true } ∧ t.evState = s.evState ∧
        Emitted s t (.value (s.flt.magnitude s.cfg)))

/-- 44_control.md R195: the manual toggle. -/
def Obligations.CtlStepTogglesOnACompletedPress : Prop :=
  ∀ s : State, s.port.ctx = false → s.ctl.diagMode = false → ¬GuardActive s → ¬HeldLong s →
    ∃ t, exec .ctlStep s = .next t ∧
      (s.evState[(0 : InputIdx)] = .released →
        t.ctl.currentControl = !s.ctl.currentControl ∧ t.evState[(0 : InputIdx)] = .idle) ∧
      (s.evState[(0 : InputIdx)] ≠ .released →
        t.ctl.currentControl = s.ctl.currentControl ∧ t.evState[(0 : InputIdx)] = s.evState[(0 : InputIdx)]) ∧
      ∀ j : InputIdx, j ≠ 0 → t.evState[j] = s.evState[j]

/-- 44_control.md R196: the FSM in `ST_IDLE`; the command is the FSM's while current control is on (R200). -/
def Obligations.FsmIdleStartsAboveHigh : Prop :=
  ∀ s : State, s.port.ctx = false → FsmRuns s → s.ctl.cstate = .idle →
    ∃ t, exec .ctlStep s = .next t ∧ t.ctl.dwellStart = s.ctl.dwellStart ∧
      (s.cfg.high < s.flt.magnitude s.cfg → t.ctl.cstate = .turningOn ∧
        (t.ctl.currentControl = true → Emitted s t .start)) ∧
      (s.flt.magnitude s.cfg ≤ s.cfg.high → t.ctl.cstate = .idle ∧
        (t.ctl.currentControl = true → Emitted s t .stop))

/-- 44_control.md R197: the FSM in `ST_TURNING_ON`. -/
def Obligations.FsmTurningOnDwellsBelowLow : Prop :=
  ∀ s : State, s.port.ctx = false → FsmRuns s → s.ctl.cstate = .turningOn →
    ∃ t, exec .ctlStep s = .next t ∧
      (t.ctl.currentControl = true → Emitted s t .start) ∧
      (s.flt.magnitude s.cfg < s.cfg.low → t.ctl.cstate = .dwell ∧ t.ctl.dwellStart = s.clk.tick) ∧
      (s.cfg.low ≤ s.flt.magnitude s.cfg → t.ctl.cstate = .turningOn ∧ t.ctl.dwellStart = s.ctl.dwellStart)

/-- 44_control.md R198: the FSM in `ST_DWELL`, the conditions in their priority (60_exceptions.md R254(c)). -/
def Obligations.FsmDwellResumesOrStops : Prop :=
  ∀ s : State, s.port.ctx = false → FsmRuns s → s.ctl.cstate = .dwell →
    ∃ t, exec .ctlStep s = .next t ∧
      (s.cfg.low < s.flt.magnitude s.cfg → t.ctl.cstate = .turningOn ∧ t.ctl.dwellStart = s.ctl.dwellStart ∧
        (t.ctl.currentControl = true → Emitted s t .none)) ∧
      (s.flt.magnitude s.cfg ≤ s.cfg.low →
        s.cfg.dwellTicks ≤ ticksSince s.cfg s.clk.tick s.ctl.dwellStart →
        t.ctl.cstate = .turningOff ∧ t.ctl.dwellStart = s.clk.tick ∧
        (t.ctl.currentControl = true → Emitted s t .stop)) ∧
      (s.flt.magnitude s.cfg ≤ s.cfg.low →
        ticksSince s.cfg s.clk.tick s.ctl.dwellStart < s.cfg.dwellTicks →
        t.ctl.cstate = .dwell ∧ t.ctl.dwellStart = s.ctl.dwellStart ∧
        (t.ctl.currentControl = true → Emitted s t .none))

/-- 44_control.md R199: the FSM in `ST_TURNING_OFF`, with `OFF_RESEND` both ways. -/
def Obligations.FsmTurningOffResumesOrRests : Prop :=
  ∀ s : State, s.port.ctx = false → FsmRuns s → s.ctl.cstate = .turningOff →
    ∃ t, exec .ctlStep s = .next t ∧ t.ctl.dwellStart = s.ctl.dwellStart ∧
      (s.cfg.high < s.flt.magnitude s.cfg → t.ctl.cstate = .turningOn ∧
        (t.ctl.currentControl = true → Emitted s t .none)) ∧
      (s.flt.magnitude s.cfg ≤ s.cfg.high →
        s.cfg.offTicks ≤ ticksSince s.cfg s.clk.tick s.ctl.dwellStart →
        t.ctl.cstate = .idle ∧ (t.ctl.currentControl = true → Emitted s t .none)) ∧
      (s.flt.magnitude s.cfg ≤ s.cfg.high →
        ticksSince s.cfg s.clk.tick s.ctl.dwellStart < s.cfg.offTicks →
        t.ctl.cstate = .turningOff ∧
        (t.ctl.currentControl = true → Emitted s t (if s.cfg.offResend = true then .stop else .none)))

/-- 44_control.md R200: the FSM is evaluated whatever `CURRENT_CONTROL` is; with current control on its command passes the gate; the
step whose press switches current control off emits the opposite of the socket's last command, every later manual one repeats it. -/
def Obligations.GateSelectsTheCommand : Prop :=
  ∀ s : State, s.port.ctx = false → FsmRuns s →
    ∃ (t : State) (f : FsmResult), exec .ctlStep s = .next t ∧
      f = fsm s.cfg s.ctl.cstate s.ctl.dwellStart s.clk.tick (s.flt.magnitude s.cfg) ∧
      t.ctl.cstate = f.cstate ∧ t.ctl.dwellStart = f.dwellStart ∧
      (t.ctl.currentControl = true → Emitted s t f.cmd) ∧
      (t.ctl.currentControl = false → s.ctl.currentControl = true →
        Emitted s t (if s.ctl.socketReq = true then .stop else .start)) ∧
      (t.ctl.currentControl = false → s.ctl.currentControl = false →
        Emitted s t (if s.ctl.socketReq = true then .start else .stop))

/-- 44_control.md R201, R203(f), R204: every `CTL.STEP` completes, emits exactly one command value, and leaves `SOCKET_REQ` 1 after
`START`, 0 after `STOP`, unchanged after `NONE` and `VALUE`. -/
def Obligations.CtlStepAlwaysEmitsOneCommand : Prop :=
  ∀ s : State, s.port.ctx = false →
    ∃ (t : State) (c : Cmd), exec .ctlStep s = .next t ∧ Emitted s t c ∧ EndedWith s t 0 ∧
      (c = .start → t.ctl.socketReq = true) ∧ (c = .stop → t.ctl.socketReq = false) ∧
      (c ≠ .start → c ≠ .stop → t.ctl.socketReq = s.ctl.socketReq)

/-- 44_control.md R203(a) and R196 to R199: whatever a step does, short of reset, `CSTATE` leaves a state only by these six events, each of
a `CTL.STEP`. -/
def Obligations.ControlStateLeavesOnlyByItsEvents : Prop :=
  ∀ s t : State, step s = .next t → s.port.rst = false → t.ctl.cstate ≠ s.ctl.cstate →
    s.port.opValid = true ∧ decode s.port.op = .ok .ctlStep ∧ s.ctl.diagMode = false ∧
    ((s.ctl.cstate = .idle ∧ t.ctl.cstate = .turningOn ∧ s.cfg.high < s.flt.magnitude s.cfg) ∨
     (s.ctl.cstate = .turningOn ∧ t.ctl.cstate = .dwell ∧ s.flt.magnitude s.cfg < s.cfg.low ∧
       t.ctl.dwellStart = s.clk.tick) ∨
     (s.ctl.cstate = .dwell ∧ t.ctl.cstate = .turningOn ∧ s.cfg.low < s.flt.magnitude s.cfg) ∨
     (s.ctl.cstate = .dwell ∧ t.ctl.cstate = .turningOff ∧ s.flt.magnitude s.cfg ≤ s.cfg.low ∧
       s.cfg.dwellTicks ≤ ticksSince s.cfg s.clk.tick s.ctl.dwellStart) ∨
     (s.ctl.cstate = .turningOff ∧ t.ctl.cstate = .turningOn ∧ s.cfg.high < s.flt.magnitude s.cfg) ∨
     (s.ctl.cstate = .turningOff ∧ t.ctl.cstate = .idle ∧ s.flt.magnitude s.cfg ≤ s.cfg.high ∧
       s.cfg.offTicks ≤ ticksSince s.cfg s.clk.tick s.ctl.dwellStart))

/-- 44_control.md R198, R203(a): with one `CTL.STEP` per tick, the magnitude staying below `LOW`, no button activity and current control
on, a machine in `ST_TURNING_ON` is in `ST_DWELL` after each of the first `DWELL_TICKS` steps, with the socket still on, and the
next step sends `STOP` and goes to `ST_TURNING_OFF` (`DWELL_TICKS` at least 1: with `DWELL_TICKS` = 0 no `k` is in range, and nothing is said). -/
def Obligations.DwellEndsExactlyOnTime : Prop :=
  ∀ (s : State) (pins : InPort) (k : Nat),
    s.cfg.valid = true → s.clk.tick < 2 ^ s.cfg.tickW → s.ctl.cstate = .turningOn →
    s.flt.magnitude s.cfg < s.cfg.low → s.ctl.currentControl = true → s.ctl.diagMode = false →
    s.ctl.guardDone = true → s.level 0 = false → s.evState[(0 : InputIdx)] ≠ .released →
    1 ≤ k → k ≤ s.cfg.dwellTicks →
    ∃ t u : State,
      Sys2Proof.core.run (2 * k)
        (s.load (List.replicate k [pins.present .ctlStep, pins.present .clkTick]).flatten) = .next t ∧
      t.ctl.cstate = .dwell ∧ t.ctl.dwellStart = s.clk.tick ∧ t.ctl.socketReq = true ∧
      Sys2Proof.core.run (2 * (s.cfg.dwellTicks + 1))
        (s.load (List.replicate (s.cfg.dwellTicks + 1) [pins.present .ctlStep, pins.present .clkTick]).flatten) = .next u ∧
      u.ctl.cstate = .turningOff ∧ u.ctl.socketReq = false

/-- 44_control.md R203(c), R193: while the guard is active no operation changes `CURRENT_CONTROL` or `DIAG_MODE`. -/
def Obligations.GuardProtectsTheModes : Prop :=
  ∀ (i : Instr) (s t : State), exec i s = .next t → s.ctl.diagMode = false → GuardActive s →
    t.ctl.currentControl = s.ctl.currentControl ∧ t.ctl.diagMode = s.ctl.diagMode ∧ t.ctl.guardDone = false

/-- 44_control.md R203(d), R192, 70_reset_and_hazards.md R311, 10_state.md R36: once `DIAG_MODE` is 1, over any run without reset the whole
control unit is frozen and every command emitted is a `VALUE`. -/
def Obligations.DiagnosticModeIsIrreversible : Prop :=
  ∀ (n : Nat) (s t : State), s.ctl.diagMode = true → (∀ p ∈ s.port :: s.pending, p.rst = false) →
    Sys2Proof.core.run n s = .next t →
    t.ctl = s.ctl ∧
    ∃ cs : List Cmd, t.record.commands = s.record.commands ++ cs ∧ ∀ c ∈ cs, ∃ v, c = .value v

/-! ## The whole machine -/

/-- 10_state.md R53 (a), (b), (c), (e), with the widths of R43, the canonical form of the ring (log 3), the absent inputs (log 7) and what
counts as an instance (log 5): the invariant holds at reset, of
every instance. -/
def Obligations.InvariantHoldsAtReset : Prop :=
  State.reset.inv ∧ ∀ c : Cfg, c.valid = true → (State.resetOf c).inv

/-- 10_state.md R53: every step keeps the invariant, from every state that meets it. -/
def Obligations.InvariantIsKept : Prop :=
  ∀ s t : State, s.inv → step s = .next t → t.inv

/-- 10_state.md R40, R53(f): the sticky flags never go from 1 to 0 but by reset. -/
def Obligations.StickyFlagsStaySet : Prop :=
  ∀ s t : State, step s = .next t → s.port.rst = false →
    (s.flt.full = true → t.flt.full = true) ∧ (s.ctl.diagMode = true → t.ctl.diagMode = true) ∧
    (s.ctl.guardDone = true → t.ctl.guardDone = true) ∧
    ∀ i : InputIdx, s.db.initialized[i] = true → t.db.initialized[i] = true

/-- 10_state.md R42, R22, 20_memory.md R61, R72(a): each element is written by the operations of its own unit only, but for `EVSTATE[0]`,
which `CTL.STEP` may set to `EV_IDLE`; `TICK` is written by `CLK.TICK` alone and `HIST` by `FLT.SAMPLE` alone. -/
def Obligations.EachElementHasOneOwner : Prop :=
  ∀ (i : Instr) (s t : State), exec i s = .next t →
    (i ≠ .clkTick → t.clk = s.clk) ∧
    (i ≠ .fltSample → t.flt = s.flt) ∧
    ((∀ k, i ≠ .dbUpdate k) → t.db = s.db) ∧
    (∀ j : InputIdx, t.evState[j] ≠ s.evState[j] →
      i = .evPoll j ∨ i = .evConsume j ∨
        (i = .ctlStep ∧ j = 0 ∧ s.evState[j] = .released ∧ t.evState[j] = .idle)) ∧
    (i ≠ .ctlStep → t.ctl = s.ctl)

/-- 10_state.md R41: no step, reset included, writes a parameter. -/
def Obligations.ParametersAreNeverWritten : Prop :=
  ∀ (n : Nat) (s t : State), Sys2Proof.core.run n s = .next t → t.cfg = s.cfg

/-- 10_state.md R23: `TICK_PIN = TICK[0]` whenever `BOOT_TICK` is even, kept by every step and true at reset. -/
def Obligations.TickPinIsTheLowBitOfTick : Prop :=
  ∀ c : Cfg, c.valid = true → c.bootTick % 2 = 0 →
    (State.resetOf c).clk.tickPin = decide ((State.resetOf c).clk.tick % 2 = 1) ∧
    ∀ s t : State, s.cfg = c → step s = .next t → s.clk.tickPin = decide (s.clk.tick % 2 = 1) →
      t.clk.tickPin = decide (t.clk.tick % 2 = 1)

/-- 30_encoding.md R83, 00_scope.md R16: from a state of the invariant (an instance, so with `SAMPLE_W <= TICK_W`, R9(f)), what a step leaves on bus `R` is a
`TICK_W`-bit number and on `CMD_VAL` a `SAMPLE_W`-bit number. -/
def Obligations.OutputsFitTheirPorts : Prop :=
  ∀ s t : State, s.inv → step s = .next t →
    t.out.r < 2 ^ s.cfg.tickW ∧ t.out.cmd.val < 2 ^ s.cfg.sampleW

/-- 70_reset_and_hazards.md R308, 10_state.md R46, R48, 30_encoding.md R81: an operation depends on no bus and no pin but those its rule
samples: `A` by `CLK.ELAPSED` and `CLK.HASELAPSED`, `B` by `CLK.HASELAPSED`, `SMP_READY` and `SMP_RAW` by `FLT.SAMPLE`, `DIN[k]` by
`DB.UPDATE k` of a present input, `WAKE` by `SYS.WAIT`. -/
def Obligations.PinsAreSeenOnlyWhenSampled : Prop :=
  ∀ (i : Instr) (s : State) (p : InPort), p.ctx = s.port.ctx →
    (i = .clkElapsed ∨ i = .clkHasElapsed → p.a = s.port.a) → (i = .clkHasElapsed → p.b = s.port.b) →
    (i = .fltSample → p.smpReady = s.port.smpReady ∧ p.smpRaw = s.port.smpRaw) →
    (∀ k, i = .dbUpdate k → k.val < s.cfg.numInputs → p.din[k] = s.port.din[k]) →
    (i = .sysWait → p.wake = s.port.wake) →
    (∀ t, exec i s = .next t → exec i { s with port := p } = .next { t with port := p }) ∧
    (∀ r, exec i s = .refused r → exec i { s with port := p } = .refused r)

/-- 45_system.md R242, 00_scope.md R13: for every operation of the sequencer but `CTL.STEP`, the one of a pass that uses time, a tick just before it and a tick
just after it leave the same state elements and commands. That both runs go on where the operation is a `SYS.WAIT` with `WAKE` = 0 (in a
hold, after the tick or before it) is the model's choice, log 12: 93_implementation_defined.md I17 calls that wait stuck. -/
def Obligations.TickCommutesWithAllButCtlStep : Prop :=
  ∀ (i : Instr) (s : State) (p q : InPort), s.cfg.valid = true → i ≠ .ctlStep → i ≠ .clkTick →
    ∃ t u : State,
      Sys2Proof.core.run 2 (s.load [p.present i, q.present .clkTick]) = .next t ∧
      Sys2Proof.core.run 2 (s.load [q.present .clkTick, p.present i]) = .next u ∧
      t.elements = u.elements ∧ t.record.commands = u.record.commands

/-- 45_system.md R242: the expansion of `PASS`, in words, for each number of inputs an instance may have, and that a pass of a conforming sequencer completes with one command. -/
def Obligations.PassExpandsAndCompletes : Prop :=
  (passOps 1).map encode = [0x20, 0x30, 0x40, 0x50] ∧
  (passOps 2).map encode = [0x20, 0x30, 0x31, 0x40, 0x41, 0x50] ∧
  (passOps 3).map encode = [0x20, 0x30, 0x31, 0x32, 0x40, 0x41, 0x42, 0x50] ∧
  (passOps 4).map encode = [0x20, 0x30, 0x31, 0x32, 0x33, 0x40, 0x41, 0x42, 0x43, 0x50] ∧
  (∀ n, n ≤ 4 → (passOps n).length = 2 * n + 2) ∧
  ∀ (s : State) (pins : InPort), s.cfg.valid = true →
    ∃ (t : State) (c : Cmd),
      Sys2Proof.core.run (passOps s.cfg.numInputs).length
        (s.load ((passOps s.cfg.numInputs).map pins.present)) = .next t ∧
      t.record.commands = s.record.commands ++ [c] ∧ t.clk = s.clk

/-- 00_scope.md R15, 60_exceptions.md R250: an instance whose agents conform never stops: every run of any length has a next state, and
goes on conforming. That a `SYS.WAIT` with `WAKE` = 0 is no stop, and that an operation of the sequencer may follow it, is the model's
choice (log 12, log 13; 93_implementation_defined.md I17 calls that wait stuck), and so are the idle steps past the end of the
presentations (log 9, log 11). -/
def Obligations.ConformingRunsNeverStop : Prop :=
  ∀ (n : Nat) (s : State), s.conforming = true →
    ∃ t : State, Sys2Proof.core.run n s = .next t ∧ t.conforming = true
end

