-- ==== Sys2Proof/Laws/Memory.lean ====
section
/-!
SUPPORT. The laws of the history ring: a slot reads as it was written last, the canonical form is kept and determines
the ring's contents, and the sum depends on the slots alone.
-/

namespace Sys2Proof.Machine

@[simp] theorem Memory.read_nil (k : Nat) : Memory.read [] k = Memory.unlisted := rfl

theorem Memory.read_cons (a x k : Nat) (m : Memory) :
    Memory.read ((a, x) :: m) k = if a = k then x else m.read k := rfl

/-- The empty ring is in canonical form. -/
theorem Memory.wf_nil : Memory.wf [] := by simp [Memory.wf]

theorem Memory.wf_cons {a x : Nat} {m : Memory} :
    Memory.wf ((a, x) :: m) ↔ (∀ c ∈ m, a < c.1) ∧ x ≠ Memory.unlisted ∧ Memory.wf m := by
  simp only [Memory.wf, List.map_cons, List.pairwise_cons, List.mem_map, List.mem_cons,
    forall_eq_or_imp, forall_exists_index, and_imp, forall_apply_eq_imp_iff₂]
  tauto

/-- A slot below every listed one reads as unlisted. -/
theorem Memory.read_below {m : Memory} {k : Nat} (h : ∀ c ∈ m, k < c.1) : m.read k = Memory.unlisted := by
  induction m with
  | nil => rfl
  | cons c m ih =>
    obtain ⟨a, x⟩ := c
    have ha : k < a := h (a, x) (by simp)
    rw [Memory.read_cons, if_neg (by omega), ih fun c hc => h c (by simp [hc])]

/-- Where the cells after a write come from. -/
theorem Memory.mem_write {m : Memory} {k v : Nat} {c : Nat × Nat} (h : c ∈ m.write k v) :
    c = (k, v) ∨ c ∈ m := by
  induction m with
  | nil => unfold Memory.write at h; split at h <;> simp_all
  | cons d m ih =>
    obtain ⟨a, x⟩ := d
    unfold Memory.write at h
    repeat' split at h
    all_goals simp only [List.mem_cons] at h ⊢
    all_goals tauto

/-- The ring of the state after reset is in canonical form, for every instance. -/
theorem State.resetOf_hist_wf (c : Cfg) : (State.resetOf c).flt.hist.wf := Memory.wf_nil

/-- Every write keeps the canonical form. -/
theorem Memory.write_wf {m : Memory} (h : m.wf) (k v : Nat) : (m.write k v).wf := by
  induction m with
  | nil => unfold Memory.write; split <;> simp_all [Memory.wf]
  | cons d m ih =>
    obtain ⟨a, x⟩ := d
    obtain ⟨hlt, hx, hm⟩ := Memory.wf_cons.1 h
    unfold Memory.write
    repeat' split
    · exact h
    · refine Memory.wf_cons.2 ⟨?_, by assumption, h⟩
      intro c hc
      rcases List.mem_cons.1 hc with rfl | hc
      · assumption
      · exact lt_trans (by assumption) (hlt c hc)
    · exact hm
    · subst_vars
      exact Memory.wf_cons.2 ⟨hlt, by assumption, hm⟩
    · refine Memory.wf_cons.2 ⟨?_, hx, ih hm⟩
      intro c hc
      rcases Memory.mem_write hc with rfl | hc
      · show a < k
        omega
      · exact hlt c hc

/-- Reading after a write: the written slot reads as the value, every other slot as before. -/
theorem Memory.read_write {m : Memory} (h : m.wf) (k v j : Nat) :
    (m.write k v).read j = if j = k then v else m.read j := by
  induction m with
  | nil => unfold Memory.write; split <;> simp_all [Memory.read_cons, eq_comm]
  | cons d m ih =>
    obtain ⟨a, x⟩ := d
    obtain ⟨hlt, hx, hm⟩ := Memory.wf_cons.1 h
    unfold Memory.write
    by_cases hk : k < a
    · have hb : Memory.read ((a, x) :: m) k = Memory.unlisted :=
        Memory.read_below fun c hc => by
          rcases List.mem_cons.1 hc with rfl | hc
          · exact hk
          · exact lt_trans hk (hlt c hc)
      by_cases hv : v = Memory.unlisted
      · by_cases hj : j = k
        · subst hj; simp [hk, hv, hb]
        · simp [hk, hv, hj]
      · by_cases hj : j = k
        · subst hj; simp [hk, hv, Memory.read_cons]
        · simp [hk, hv, hj, Memory.read_cons, Ne.symm hj]
    · by_cases hak : a = k
      · subst hak
        have hb : Memory.read m a = Memory.unlisted := Memory.read_below hlt
        by_cases hv : v = Memory.unlisted
        · by_cases hj : j = a
          · subst hj; simp [hv, hb]
          · simp [hv, hj, Memory.read_cons, Ne.symm hj]
        · by_cases hj : j = a
          · subst hj; simp [hv, Memory.read_cons]
          · simp [hv, hj, Memory.read_cons, Ne.symm hj]
      · by_cases hj : j = k
        · subst hj; simp [hk, hak, Memory.read_cons, ih hm]
        · simp [hk, hak, hj, Memory.read_cons, ih hm]

/-- A sum depends on the slots it covers alone. -/
theorem Memory.sum_congr {m m' : Memory} {n : Nat} (h : ∀ k, k < n → m.read k = m'.read k) :
    m.sum n = m'.sum n := by
  induction n with
  | zero => rfl
  | succ n ih =>
    simp only [Memory.sum]
    rw [ih fun k hk => h k (by omega), h n (by omega)]

/-- A slot listed nowhere with a value over the bound reads within it. -/
theorem Memory.read_lt {m : Memory} {b : Nat} (hb : 0 < b) (h : ∀ c ∈ m, c.2 < b) (k : Nat) : m.read k < b := by
  induction m with
  | nil => simpa [Memory.unlisted] using hb
  | cons d m ih =>
    rw [Memory.read_cons]
    split
    · exact h d (by simp)
    · exact ih fun c hc => h c (by simp [hc])

end Sys2Proof.Machine
end

