-- ==== Sys2Proof/Laws/State.lean ====
section
/-!
SUPPORT. One lemma for each field and each named update of the state: what the update leaves there.
-/

namespace Sys2Proof.Machine

/-! `endHold`: only the hold and the record. -/

@[simp] theorem State.endHold_cfg (s : State) : (s.endHold).cfg = s.cfg := by unfold State.endHold; split <;> rfl
@[simp] theorem State.endHold_clk (s : State) : (s.endHold).clk = s.clk := by unfold State.endHold; split <;> rfl
@[simp] theorem State.endHold_flt (s : State) : (s.endHold).flt = s.flt := by unfold State.endHold; split <;> rfl
@[simp] theorem State.endHold_db (s : State) : (s.endHold).db = s.db := by unfold State.endHold; split <;> rfl
@[simp] theorem State.endHold_evState (s : State) : (s.endHold).evState = s.evState := by unfold State.endHold; split <;> rfl
@[simp] theorem State.endHold_ctl (s : State) : (s.endHold).ctl = s.ctl := by unfold State.endHold; split <;> rfl
@[simp] theorem State.endHold_port (s : State) : (s.endHold).port = s.port := by unfold State.endHold; split <;> rfl
@[simp] theorem State.endHold_pending (s : State) : (s.endHold).pending = s.pending := by unfold State.endHold; split <;> rfl
@[simp] theorem State.endHold_out (s : State) : (s.endHold).out = s.out := by unfold State.endHold; split <;> rfl
@[simp] theorem State.endHold_hold (s : State) : s.endHold.hold = false := by
  unfold State.endHold; split <;> simp_all
@[simp] theorem State.endHold_results (s : State) :
    s.endHold.record.results = if s.hold then s.record.results ++ [0] else s.record.results := by
  unfold State.endHold; split <;> rfl
@[simp] theorem State.endHold_commands (s : State) : s.endHold.record.commands = s.record.commands := by
  unfold State.endHold; split <;> rfl

/-! `beginOp`: `endHold`, and the outputs at rest. -/

@[simp] theorem State.beginOp_cfg (s : State) : (s.beginOp).cfg = s.cfg := by simp [State.beginOp]
@[simp] theorem State.beginOp_clk (s : State) : (s.beginOp).clk = s.clk := by simp [State.beginOp]
@[simp] theorem State.beginOp_flt (s : State) : (s.beginOp).flt = s.flt := by simp [State.beginOp]
@[simp] theorem State.beginOp_db (s : State) : (s.beginOp).db = s.db := by simp [State.beginOp]
@[simp] theorem State.beginOp_evState (s : State) : (s.beginOp).evState = s.evState := by simp [State.beginOp]
@[simp] theorem State.beginOp_ctl (s : State) : (s.beginOp).ctl = s.ctl := by simp [State.beginOp]
@[simp] theorem State.beginOp_port (s : State) : (s.beginOp).port = s.port := by simp [State.beginOp]
@[simp] theorem State.beginOp_pending (s : State) : (s.beginOp).pending = s.pending := by simp [State.beginOp]
@[simp] theorem State.beginOp_hold (s : State) : s.beginOp.hold = false := by simp [State.beginOp]
@[simp] theorem State.beginOp_out (s : State) : s.beginOp.out = .rest := rfl
@[simp] theorem State.beginOp_record (s : State) : s.beginOp.record = s.endHold.record := rfl

/-! `drive`: the result bus and the recorded results. -/

@[simp] theorem State.drive_cfg (s : State) (v : Nat) : (s.drive v).cfg = s.cfg := rfl
@[simp] theorem State.drive_clk (s : State) (v : Nat) : (s.drive v).clk = s.clk := rfl
@[simp] theorem State.drive_flt (s : State) (v : Nat) : (s.drive v).flt = s.flt := rfl
@[simp] theorem State.drive_db (s : State) (v : Nat) : (s.drive v).db = s.db := rfl
@[simp] theorem State.drive_evState (s : State) (v : Nat) : (s.drive v).evState = s.evState := rfl
@[simp] theorem State.drive_ctl (s : State) (v : Nat) : (s.drive v).ctl = s.ctl := rfl
@[simp] theorem State.drive_port (s : State) (v : Nat) : (s.drive v).port = s.port := rfl
@[simp] theorem State.drive_pending (s : State) (v : Nat) : (s.drive v).pending = s.pending := rfl
@[simp] theorem State.drive_hold (s : State) (v : Nat) : (s.drive v).hold = s.hold := rfl
@[simp] theorem State.drive_out_r (s : State) (v : Nat) : (s.drive v).out.r = v := rfl
@[simp] theorem State.drive_out_cmd (s : State) (v : Nat) : (s.drive v).out.cmd = s.out.cmd := rfl
@[simp] theorem State.drive_out_smpAck (s : State) (v : Nat) : (s.drive v).out.smpAck = s.out.smpAck := rfl
@[simp] theorem State.drive_record_results (s : State) (v : Nat) : (s.drive v).record.results = s.record.results ++ [v] := rfl
@[simp] theorem State.drive_record_commands (s : State) (v : Nat) : (s.drive v).record.commands = s.record.commands := rfl

/-! `emit`: the command port, the recorded commands and `SOCKET_REQ`. -/

@[simp] theorem State.emit_cfg (s : State) (c : Cmd) : (s.emit c).cfg = s.cfg := rfl
@[simp] theorem State.emit_clk (s : State) (c : Cmd) : (s.emit c).clk = s.clk := rfl
@[simp] theorem State.emit_flt (s : State) (c : Cmd) : (s.emit c).flt = s.flt := rfl
@[simp] theorem State.emit_db (s : State) (c : Cmd) : (s.emit c).db = s.db := rfl
@[simp] theorem State.emit_evState (s : State) (c : Cmd) : (s.emit c).evState = s.evState := rfl
@[simp] theorem State.emit_port (s : State) (c : Cmd) : (s.emit c).port = s.port := rfl
@[simp] theorem State.emit_pending (s : State) (c : Cmd) : (s.emit c).pending = s.pending := rfl
@[simp] theorem State.emit_hold (s : State) (c : Cmd) : (s.emit c).hold = s.hold := rfl
@[simp] theorem State.emit_out_r (s : State) (c : Cmd) : (s.emit c).out.r = s.out.r := rfl
@[simp] theorem State.emit_out_cmd (s : State) (c : Cmd) : (s.emit c).out.cmd = c := rfl
@[simp] theorem State.emit_out_smpAck (s : State) (c : Cmd) : (s.emit c).out.smpAck = s.out.smpAck := rfl
@[simp] theorem State.emit_record_results (s : State) (c : Cmd) : (s.emit c).record.results = s.record.results := rfl
@[simp] theorem State.emit_record_commands (s : State) (c : Cmd) : (s.emit c).record.commands = s.record.commands ++ [c] := rfl
@[simp] theorem State.emit_ctl_socketReq (s : State) (c : Cmd) : (s.emit c).ctl.socketReq = socketReqNext c s.ctl.socketReq := rfl
@[simp] theorem State.emit_ctl_cstate (s : State) (c : Cmd) : (s.emit c).ctl.cstate = s.ctl.cstate := rfl
@[simp] theorem State.emit_ctl_dwellStart (s : State) (c : Cmd) : (s.emit c).ctl.dwellStart = s.ctl.dwellStart := rfl
@[simp] theorem State.emit_ctl_currentControl (s : State) (c : Cmd) : (s.emit c).ctl.currentControl = s.ctl.currentControl := rfl
@[simp] theorem State.emit_ctl_diagMode (s : State) (c : Cmd) : (s.emit c).ctl.diagMode = s.ctl.diagMode := rfl
@[simp] theorem State.emit_ctl_guardDone (s : State) (c : Cmd) : (s.emit c).ctl.guardDone = s.ctl.guardDone := rfl
@[simp] theorem State.emit_ctl_btnUpTick (s : State) (c : Cmd) : (s.emit c).ctl.btnUpTick = s.ctl.btnUpTick := rfl

/-! `pulseAck`: `SMP_ACK` only. -/

@[simp] theorem State.pulseAck_cfg (s : State) : (s.pulseAck).cfg = s.cfg := rfl
@[simp] theorem State.pulseAck_clk (s : State) : (s.pulseAck).clk = s.clk := rfl
@[simp] theorem State.pulseAck_flt (s : State) : (s.pulseAck).flt = s.flt := rfl
@[simp] theorem State.pulseAck_db (s : State) : (s.pulseAck).db = s.db := rfl
@[simp] theorem State.pulseAck_evState (s : State) : (s.pulseAck).evState = s.evState := rfl
@[simp] theorem State.pulseAck_ctl (s : State) : (s.pulseAck).ctl = s.ctl := rfl
@[simp] theorem State.pulseAck_port (s : State) : (s.pulseAck).port = s.port := rfl
@[simp] theorem State.pulseAck_pending (s : State) : (s.pulseAck).pending = s.pending := rfl
@[simp] theorem State.pulseAck_hold (s : State) : (s.pulseAck).hold = s.hold := rfl
@[simp] theorem State.pulseAck_record (s : State) : (s.pulseAck).record = s.record := rfl
@[simp] theorem State.pulseAck_out_r (s : State) : s.pulseAck.out.r = s.out.r := rfl
@[simp] theorem State.pulseAck_out_cmd (s : State) : s.pulseAck.out.cmd = s.out.cmd := rfl
@[simp] theorem State.pulseAck_out_smpAck (s : State) : s.pulseAck.out.smpAck = true := rfl

/-! `consumeEffect`: `EVSTATE` only. -/

@[simp] theorem State.consumeEffect_cfg (s : State) (i : InputIdx) : (s.consumeEffect i).cfg = s.cfg := rfl
@[simp] theorem State.consumeEffect_clk (s : State) (i : InputIdx) : (s.consumeEffect i).clk = s.clk := rfl
@[simp] theorem State.consumeEffect_flt (s : State) (i : InputIdx) : (s.consumeEffect i).flt = s.flt := rfl
@[simp] theorem State.consumeEffect_db (s : State) (i : InputIdx) : (s.consumeEffect i).db = s.db := rfl
@[simp] theorem State.consumeEffect_ctl (s : State) (i : InputIdx) : (s.consumeEffect i).ctl = s.ctl := rfl
@[simp] theorem State.consumeEffect_port (s : State) (i : InputIdx) : (s.consumeEffect i).port = s.port := rfl
@[simp] theorem State.consumeEffect_pending (s : State) (i : InputIdx) : (s.consumeEffect i).pending = s.pending := rfl
@[simp] theorem State.consumeEffect_hold (s : State) (i : InputIdx) : (s.consumeEffect i).hold = s.hold := rfl
@[simp] theorem State.consumeEffect_out (s : State) (i : InputIdx) : (s.consumeEffect i).out = s.out := rfl
@[simp] theorem State.consumeEffect_record (s : State) (i : InputIdx) : (s.consumeEffect i).record = s.record := rfl
@[simp] theorem State.consumeEffect_evState (s : State) (i : InputIdx) :
    (s.consumeEffect i).evState = s.evState.set i s.evState[i].afterConsume := rfl

/-! `buttonUp`: `BTN_UP_TICK` only. -/

@[simp] theorem State.buttonUp_cfg (s : State) (t : Nat) : (s.buttonUp t).cfg = s.cfg := rfl
@[simp] theorem State.buttonUp_clk (s : State) (t : Nat) : (s.buttonUp t).clk = s.clk := rfl
@[simp] theorem State.buttonUp_flt (s : State) (t : Nat) : (s.buttonUp t).flt = s.flt := rfl
@[simp] theorem State.buttonUp_db (s : State) (t : Nat) : (s.buttonUp t).db = s.db := rfl
@[simp] theorem State.buttonUp_evState (s : State) (t : Nat) : (s.buttonUp t).evState = s.evState := rfl
@[simp] theorem State.buttonUp_port (s : State) (t : Nat) : (s.buttonUp t).port = s.port := rfl
@[simp] theorem State.buttonUp_pending (s : State) (t : Nat) : (s.buttonUp t).pending = s.pending := rfl
@[simp] theorem State.buttonUp_hold (s : State) (t : Nat) : (s.buttonUp t).hold = s.hold := rfl
@[simp] theorem State.buttonUp_out (s : State) (t : Nat) : (s.buttonUp t).out = s.out := rfl
@[simp] theorem State.buttonUp_record (s : State) (t : Nat) : (s.buttonUp t).record = s.record := rfl
@[simp] theorem State.buttonUp_ctl (s : State) (t : Nat) : (s.buttonUp t).ctl = { s.ctl with btnUpTick := t } := rfl

/-! `control`: the unit CTL, the command port and the recorded commands. -/

@[simp] theorem State.control_cfg (s : State) (t m : Nat) (p : Bool) : (s.control t m p).cfg = s.cfg := rfl
@[simp] theorem State.control_clk (s : State) (t m : Nat) (p : Bool) : (s.control t m p).clk = s.clk := rfl
@[simp] theorem State.control_flt (s : State) (t m : Nat) (p : Bool) : (s.control t m p).flt = s.flt := rfl
@[simp] theorem State.control_db (s : State) (t m : Nat) (p : Bool) : (s.control t m p).db = s.db := rfl
@[simp] theorem State.control_evState (s : State) (t m : Nat) (p : Bool) : (s.control t m p).evState = s.evState := rfl
@[simp] theorem State.control_port (s : State) (t m : Nat) (p : Bool) : (s.control t m p).port = s.port := rfl
@[simp] theorem State.control_pending (s : State) (t m : Nat) (p : Bool) : (s.control t m p).pending = s.pending := rfl
@[simp] theorem State.control_hold (s : State) (t m : Nat) (p : Bool) : (s.control t m p).hold = s.hold := rfl
@[simp] theorem State.control_out_r (s : State) (t m : Nat) (p : Bool) : (s.control t m p).out.r = s.out.r := rfl
@[simp] theorem State.control_out_smpAck (s : State) (t m : Nat) (p : Bool) : (s.control t m p).out.smpAck = s.out.smpAck := rfl
@[simp] theorem State.control_record_results (s : State) (t m : Nat) (p : Bool) :
    (s.control t m p).record.results = s.record.results := rfl
@[simp] theorem State.control_ctl_diagMode (s : State) (t m : Nat) (p : Bool) : (s.control t m p).ctl.diagMode = s.ctl.diagMode := rfl
@[simp] theorem State.control_ctl_guardDone (s : State) (t m : Nat) (p : Bool) : (s.control t m p).ctl.guardDone = s.ctl.guardDone := rfl
@[simp] theorem State.control_ctl_btnUpTick (s : State) (t m : Nat) (p : Bool) : (s.control t m p).ctl.btnUpTick = s.ctl.btnUpTick := rfl

/-! `endGuard`: `GUARD_DONE` only. -/

@[simp] theorem State.endGuard_cfg (s : State) : s.endGuard.cfg = s.cfg := rfl
@[simp] theorem State.endGuard_clk (s : State) : s.endGuard.clk = s.clk := rfl
@[simp] theorem State.endGuard_flt (s : State) : s.endGuard.flt = s.flt := rfl
@[simp] theorem State.endGuard_db (s : State) : s.endGuard.db = s.db := rfl
@[simp] theorem State.endGuard_evState (s : State) : s.endGuard.evState = s.evState := rfl
@[simp] theorem State.endGuard_port (s : State) : s.endGuard.port = s.port := rfl
@[simp] theorem State.endGuard_pending (s : State) : s.endGuard.pending = s.pending := rfl
@[simp] theorem State.endGuard_hold (s : State) : s.endGuard.hold = s.hold := rfl
@[simp] theorem State.endGuard_out (s : State) : s.endGuard.out = s.out := rfl
@[simp] theorem State.endGuard_record (s : State) : s.endGuard.record = s.record := rfl
@[simp] theorem State.endGuard_ctl_cstate (s : State) : s.endGuard.ctl.cstate = s.ctl.cstate := rfl
@[simp] theorem State.endGuard_ctl_dwellStart (s : State) : s.endGuard.ctl.dwellStart = s.ctl.dwellStart := rfl
@[simp] theorem State.endGuard_ctl_currentControl (s : State) : s.endGuard.ctl.currentControl = s.ctl.currentControl := rfl
@[simp] theorem State.endGuard_ctl_diagMode (s : State) : s.endGuard.ctl.diagMode = s.ctl.diagMode := rfl
@[simp] theorem State.endGuard_ctl_btnUpTick (s : State) : s.endGuard.ctl.btnUpTick = s.ctl.btnUpTick := rfl
@[simp] theorem State.endGuard_ctl_socketReq (s : State) : s.endGuard.ctl.socketReq = s.ctl.socketReq := rfl
@[simp] theorem State.endGuard_ctl_guardDone (s : State) : s.endGuard.ctl.guardDone = true := rfl

/-! `enterDiag`: `DIAG_MODE`, the command port and the recorded commands. -/

@[simp] theorem State.enterDiag_cfg (s : State) (m : Nat) : (s.enterDiag m).cfg = s.cfg := rfl
@[simp] theorem State.enterDiag_clk (s : State) (m : Nat) : (s.enterDiag m).clk = s.clk := rfl
@[simp] theorem State.enterDiag_flt (s : State) (m : Nat) : (s.enterDiag m).flt = s.flt := rfl
@[simp] theorem State.enterDiag_db (s : State) (m : Nat) : (s.enterDiag m).db = s.db := rfl
@[simp] theorem State.enterDiag_evState (s : State) (m : Nat) : (s.enterDiag m).evState = s.evState := rfl
@[simp] theorem State.enterDiag_port (s : State) (m : Nat) : (s.enterDiag m).port = s.port := rfl
@[simp] theorem State.enterDiag_pending (s : State) (m : Nat) : (s.enterDiag m).pending = s.pending := rfl
@[simp] theorem State.enterDiag_hold (s : State) (m : Nat) : (s.enterDiag m).hold = s.hold := rfl
@[simp] theorem State.enterDiag_ctl (s : State) (m : Nat) : (s.enterDiag m).ctl = { s.ctl with diagMode := true } := rfl
@[simp] theorem State.enterDiag_out (s : State) (m : Nat) : (s.enterDiag m).out = { s.out with cmd := .value m } := rfl
@[simp] theorem State.enterDiag_results (s : State) (m : Nat) : (s.enterDiag m).record.results = s.record.results := rfl
@[simp] theorem State.enterDiag_commands (s : State) (m : Nat) :
    (s.enterDiag m).record.commands = s.record.commands ++ [.value m] := rfl

/-! `advance`: the presentations only. -/

@[simp] theorem State.advance_cfg (s : State) : (s.advance).cfg = s.cfg := rfl
@[simp] theorem State.advance_clk (s : State) : (s.advance).clk = s.clk := rfl
@[simp] theorem State.advance_flt (s : State) : (s.advance).flt = s.flt := rfl
@[simp] theorem State.advance_db (s : State) : (s.advance).db = s.db := rfl
@[simp] theorem State.advance_evState (s : State) : (s.advance).evState = s.evState := rfl
@[simp] theorem State.advance_ctl (s : State) : (s.advance).ctl = s.ctl := rfl
@[simp] theorem State.advance_hold (s : State) : (s.advance).hold = s.hold := rfl
@[simp] theorem State.advance_out (s : State) : (s.advance).out = s.out := rfl
@[simp] theorem State.advance_record (s : State) : (s.advance).record = s.record := rfl
@[simp] theorem State.advance_port (s : State) : s.advance.port = s.pending.headD .idle := rfl
@[simp] theorem State.advance_pending (s : State) : s.advance.pending = s.pending.tail := rfl

/-! `load`: the presentations only. -/

@[simp] theorem State.load_cfg (s : State) (ps : List InPort) : (s.load ps).cfg = s.cfg := rfl
@[simp] theorem State.load_clk (s : State) (ps : List InPort) : (s.load ps).clk = s.clk := rfl
@[simp] theorem State.load_flt (s : State) (ps : List InPort) : (s.load ps).flt = s.flt := rfl
@[simp] theorem State.load_db (s : State) (ps : List InPort) : (s.load ps).db = s.db := rfl
@[simp] theorem State.load_evState (s : State) (ps : List InPort) : (s.load ps).evState = s.evState := rfl
@[simp] theorem State.load_ctl (s : State) (ps : List InPort) : (s.load ps).ctl = s.ctl := rfl
@[simp] theorem State.load_hold (s : State) (ps : List InPort) : (s.load ps).hold = s.hold := rfl
@[simp] theorem State.load_out (s : State) (ps : List InPort) : (s.load ps).out = s.out := rfl
@[simp] theorem State.load_record (s : State) (ps : List InPort) : (s.load ps).record = s.record := rfl

/-! `idleOp`: the hold, the record and the outputs. -/

@[simp] theorem State.idleOp_cfg (s : State) : (s.idleOp).cfg = s.cfg := by unfold State.idleOp; split <;> simp
@[simp] theorem State.idleOp_clk (s : State) : (s.idleOp).clk = s.clk := by unfold State.idleOp; split <;> simp
@[simp] theorem State.idleOp_flt (s : State) : (s.idleOp).flt = s.flt := by unfold State.idleOp; split <;> simp
@[simp] theorem State.idleOp_db (s : State) : (s.idleOp).db = s.db := by unfold State.idleOp; split <;> simp
@[simp] theorem State.idleOp_evState (s : State) : (s.idleOp).evState = s.evState := by unfold State.idleOp; split <;> simp
@[simp] theorem State.idleOp_ctl (s : State) : (s.idleOp).ctl = s.ctl := by unfold State.idleOp; split <;> simp
@[simp] theorem State.idleOp_port (s : State) : (s.idleOp).port = s.port := by unfold State.idleOp; split <;> simp
@[simp] theorem State.idleOp_pending (s : State) : (s.idleOp).pending = s.pending := by unfold State.idleOp; split <;> simp
@[simp] theorem State.idleOp_out (s : State) : s.idleOp.out = .rest := rfl
@[simp] theorem State.idleOp_commands (s : State) : s.idleOp.record.commands = s.record.commands := by
  unfold State.idleOp; split <;> simp
@[simp] theorem State.idleOp_results (s : State) :
    s.idleOp.record.results = if s.hold && s.port.wake then s.record.results ++ [0] else s.record.results := by
  unfold State.idleOp; split <;> simp_all
@[simp] theorem State.idleOp_hold (s : State) : s.idleOp.hold = (s.hold && !s.port.wake) := by
  unfold State.idleOp; split <;> simp_all

/-! `applyReset`: the reset state, under the same instance, presentations and record. -/

@[simp] theorem State.applyReset_cfg (s : State) : s.applyReset.cfg = s.cfg := rfl
@[simp] theorem State.applyReset_port (s : State) : s.applyReset.port = s.port := rfl
@[simp] theorem State.applyReset_pending (s : State) : s.applyReset.pending = s.pending := rfl
@[simp] theorem State.applyReset_record (s : State) : s.applyReset.record = s.record := rfl
@[simp] theorem State.applyReset_clk (s : State) : s.applyReset.clk = Clk.initial s.cfg := rfl
@[simp] theorem State.applyReset_flt (s : State) : s.applyReset.flt = Flt.initial s.cfg := rfl
@[simp] theorem State.applyReset_db (s : State) : s.applyReset.db = Db.initial := rfl
@[simp] theorem State.applyReset_evState (s : State) : s.applyReset.evState = Vector.replicate 4 .idle := rfl
@[simp] theorem State.applyReset_ctl (s : State) : s.applyReset.ctl = Ctl.initial s.cfg := rfl
@[simp] theorem State.applyReset_hold (s : State) : s.applyReset.hold = false := rfl
@[simp] theorem State.applyReset_out (s : State) : s.applyReset.out = .rest := rfl

end Sys2Proof.Machine
end

