-- ==== Sys2Proof/Laws/Ops.lean ====
section
/-!
SUPPORT. For each shared operation, once, everything it can do.
-/

namespace Sys2Proof.Machine

/-! The port. -/

/-- All that an operation of the sequencer can answer. -/
theorem State.loopOp_cases (s : State) (body : State → State) :
    (s.port.ctx = false ∧ s.loopOp body = .next (body s.beginOp)) ∨
    (s.port.ctx = true ∧ s.loopOp body = .refused .wrongContext) := by
  unfold State.loopOp
  cases s.port.ctx <;> simp

/-- All that an operation of the tick agent can answer. -/
theorem State.tickOp_cases (s : State) (body : State → State) :
    (s.port.ctx = true ∧ s.tickOp body = .next (body s.beginOp)) ∨
    (s.port.ctx = false ∧ s.tickOp body = .refused .wrongContext) := by
  unfold State.tickOp
  cases s.port.ctx <;> simp

@[simp] theorem State.loopOp_eq_next {s t : State} {body : State → State} :
    s.loopOp body = .next t ↔ s.port.ctx = false ∧ body s.beginOp = t := by
  rcases s.loopOp_cases body with ⟨h, e⟩ | ⟨h, e⟩ <;> simp [h, e]

@[simp] theorem State.tickOp_eq_next {s t : State} {body : State → State} :
    s.tickOp body = .next t ↔ s.port.ctx = true ∧ body s.beginOp = t := by
  rcases s.tickOp_cases body with ⟨h, e⟩ | ⟨h, e⟩ <;> simp [h, e]

@[simp] theorem State.loopOp_eq_refused {s : State} {body : State → State} {r : Refusal} :
    s.loopOp body = .refused r ↔ s.port.ctx = true ∧ .wrongContext = r := by
  rcases s.loopOp_cases body with ⟨h, e⟩ | ⟨h, e⟩ <;> simp [h, e]

@[simp] theorem State.tickOp_eq_refused {s : State} {body : State → State} {r : Refusal} :
    s.tickOp body = .refused r ↔ s.port.ctx = false ∧ .wrongContext = r := by
  rcases s.tickOp_cases body with ⟨h, e⟩ | ⟨h, e⟩ <;> simp [h, e]

theorem State.onInput_present {s : State} {i : InputIdx} (body : State → State) (h : i.val < s.cfg.numInputs) :
    s.onInput i body = body s := if_pos h

theorem State.onInput_absent {s : State} {i : InputIdx} (body : State → State) (h : s.cfg.numInputs ≤ i.val) :
    s.onInput i body = s.drive 0 := if_neg (by omega)

/-- A step under `RST`. -/
theorem step_reset {s : State} (hv : s.cfg.valid = true) (hr : s.port.rst = true) :
    step s = .next s.applyReset.advance := by
  simp [step, hv, hr]

/-- A step in which no operation is presented. -/
theorem step_idle {s : State} (hv : s.cfg.valid = true) (hr : s.port.rst = false) (ho : s.port.opValid = false) :
    step s = .next s.idleOp.advance := by
  simp [step, hv, hr, ho]

/-- A step in which a defined operation is presented. -/
theorem step_presented {s : State} {i : Instr} (hv : s.cfg.valid = true) (hr : s.port.rst = false)
    (ho : s.port.opValid = true) (hd : decode s.port.op = .ok i) : step s = advanceOutcome (exec i s) := by
  simp [step, State.fetch, hv, hr, ho, hd]

/-- All that a step can answer with a next state: reset, no operation, or the decoded operation. -/
theorem step_eq_next {s t : State} :
    step s = .next t ↔
      s.cfg.valid = true ∧
        ((s.port.rst = true ∧ t = s.applyReset.advance) ∨
         (s.port.rst = false ∧ s.port.opValid = false ∧ t = s.idleOp.advance) ∨
         (s.port.rst = false ∧ s.port.opValid = true ∧
           ∃ i u, decode s.port.op = .ok i ∧ exec i s = .next u ∧ t = u.advance)) := by
  unfold step State.fetch
  cases hv : s.cfg.valid <;> cases hr : s.port.rst <;> cases ho : s.port.opValid <;> simp [eq_comm]
  rcases hd : decode s.port.op with ⟨op⟩ | i
  · simp
  · rcases he : exec i s with u | f | r
    · simp [advanceOutcome, he, eq_comm]
    · cases f
    · simp [advanceOutcome, he]

/-! The arithmetic. -/

/-- `sub_W` is the non-negative residue of the exact difference (00_scope.md R17). -/
theorem subW_eq_emod (w a b : Nat) : (subW w a b : Int) = ((a : Int) - b) % (2 ^ w : Nat) := by
  unfold subW
  have hp : 0 < 2 ^ w := Nat.two_pow_pos w
  have hb : b % 2 ^ w < 2 ^ w := Nat.mod_lt _ hp
  rw [Int.natCast_mod, Nat.cast_add, Nat.cast_sub hb.le, Int.natCast_mod]
  rw [show (a : Int) + (((2 ^ w : Nat) : Int) - (b : Int) % ((2 ^ w : Nat) : Int))
      = ((a : Int) - (b : Int) % ((2 ^ w : Nat) : Int)) + ((2 ^ w : Nat) : Int) by ring,
    Int.add_emod_right, Int.sub_emod, Int.emod_emod, ← Int.sub_emod]

theorem subW_lt (w a b : Nat) : subW w a b < 2 ^ w := Nat.mod_lt _ (Nat.two_pow_pos w)

theorem addW_lt (w a b : Nat) : addW w a b < 2 ^ w := Nat.mod_lt _ (Nat.two_pow_pos w)

/-- `absdiff` is the distance (00_scope.md R17). -/
theorem absDiff_eq_natAbs (a b : Nat) : absDiff a b = ((a : Int) - b).natAbs := by
  unfold absDiff; split <;> omega

theorem elapsedAt_lt (c : Cfg) (t start : Nat) : elapsedAt c t start < 2 ^ c.tickW := subW_lt _ _ _

@[simp] theorem hasElapsedAt_iff {c : Cfg} {t start d : Nat} :
    hasElapsedAt c t start d = true ↔ d ≤ elapsedAt c t start := by simp [hasElapsedAt]

/-! The units. -/

/-- The debounce step, case by case (42_debounce.md R150). -/
theorem Db.update_cases (d : Db) (c : Cfg) (i : InputIdx) (raw : Bool) :
    (raw ≠ d.lastRaw[i] ∧ d.update c i raw = { d with lastRaw := d.lastRaw.set i raw, cnt := d.cnt.set i 0 }) ∨
    (raw = d.lastRaw[i] ∧ d.cnt[i] + 1 < c.dbThresh ∧
      d.update c i raw = { d with cnt := d.cnt.set i (d.cnt[i] + 1) }) ∨
    (raw = d.lastRaw[i] ∧ c.dbThresh ≤ d.cnt[i] + 1 ∧
      d.update c i raw =
        { d with
          cnt := d.cnt.set i c.dbThresh, validated := d.validated.set i raw,
          initialized := d.initialized.set i true }) := by
  by_cases hr : raw = d.lastRaw[i]
  · rcases Nat.lt_or_ge (d.cnt[i] + 1) c.dbThresh with hc | hc
    · right; left
      refine ⟨hr, hc, ?_⟩
      unfold Db.update
      rw [if_neg (by simpa using hr), if_neg (by simp only [Nat.min_def]; split <;> omega),
        Nat.min_eq_left (by omega)]
    · right; right
      refine ⟨hr, hc, ?_⟩
      unfold Db.update
      rw [if_neg (by simpa using hr), Nat.min_eq_right hc, if_pos rfl]
  · left
    exact ⟨hr, if_pos hr⟩

/-- The FSM never yields a value command (44_control.md R196 to R199). -/
theorem fsm_cmd (c : Cfg) (state : CState) (start t m : Nat) :
    (fsm c state start t m).cmd = .none ∨ (fsm c state start t m).cmd = .start ∨
      (fsm c state start t m).cmd = .stop := by
  cases state <;> simp only [fsm, fsmIdle, fsmTurningOn, fsmDwell, fsmTurningOff]
  all_goals repeat' split
  all_goals simp

/-- `DWELL_START` after an evaluation of the FSM is the old value or the snapshot. -/
theorem fsm_dwellStart (c : Cfg) (state : CState) (start t m : Nat) :
    (fsm c state start t m).dwellStart = start ∨ (fsm c state start t m).dwellStart = t := by
  cases state <;> simp only [fsm, fsmIdle, fsmTurningOn, fsmDwell, fsmTurningOff]
  all_goals repeat' split
  all_goals simp

/-- All that `CTL.STEP` can answer with a next state: diagnostic mode, a guarded step, or a step after the guard. -/
theorem execCtlStep_eq_next {s t : State} :
    execCtlStep s = .next t ↔
      s.port.ctx = false ∧
        ((s.ctl.diagMode = true ∧ t = (s.beginOp.emit (.value (s.flt.magnitude s.cfg))).drive 0) ∨
         (s.ctl.diagMode = false ∧ s.beginOp.inGuard s.clk.tick = true ∧
           t = (s.beginOp.guardedStep s.clk.tick (s.flt.magnitude s.cfg)).drive 0) ∨
         (s.ctl.diagMode = false ∧ s.beginOp.inGuard s.clk.tick = false ∧
           t = (s.beginOp.openStep s.clk.tick (s.flt.magnitude s.cfg)).drive 0)) := by
  unfold execCtlStep
  rw [State.loopOp_eq_next]
  simp only [State.beginOp_ctl, State.beginOp_clk, State.beginOp_flt, State.beginOp_cfg]
  cases s.ctl.diagMode <;> cases s.beginOp.inGuard s.clk.tick <;>
    simp only [Bool.false_eq_true, if_false, if_true, false_and, true_and, or_false, false_or, reduceCtorEq,
      @eq_comm _ _ t]

end Sys2Proof.Machine
end

