-- ==== Sys2Proof/Laws/Exec.lean ====
section
/-!
SUPPORT. For each operation, once: the state it leaves in its own context.
-/

namespace Sys2Proof.Machine

theorem exec_sysWait {s : State} (h : s.port.ctx = false) :
    exec .sysWait s = .next (if s.port.wake then s.beginOp.drive 0 else { s.beginOp with hold := true }) := by
  simp [exec, execSysWait, State.loopOp, h, State.pinWake]

theorem exec_clkTick {s : State} (h : s.port.ctx = true) :
    exec .clkTick s = .next ({ s.beginOp with clk := s.clk.advance s.cfg }.drive 0) := by
  simp [exec, execClkTick, State.tickOp, h]

theorem exec_clkNow {s : State} (h : s.port.ctx = false) :
    exec .clkNow s = .next (s.beginOp.drive s.clk.tick) := by
  simp [exec, execClkNow, State.loopOp, h]

theorem exec_clkElapsed {s : State} (h : s.port.ctx = false) :
    exec .clkElapsed s = .next (s.beginOp.drive (elapsedAt s.cfg s.clk.tick s.busA)) := by
  simp [exec, execClkElapsed, State.loopOp, h, State.busA]

theorem exec_clkHasElapsed {s : State} (h : s.port.ctx = false) :
    exec .clkHasElapsed s = .next (s.beginOp.drive (bit (hasElapsedAt s.cfg s.clk.tick s.busA s.busB))) := by
  simp [exec, execClkHasElapsed, State.loopOp, h, State.busA, State.busB]

theorem exec_fltSample_ready {s : State} (h : s.port.ctx = false) (hr : s.port.smpReady = true) :
    exec .fltSample s =
      .next ((({ s.beginOp with flt := s.flt.ingest s.cfg s.pinRaw } : State).pulseAck).drive 0) := by
  simp [exec, execFltSample, State.loopOp, h, State.pinReady, State.pinRaw, hr]

theorem exec_fltSample_idle {s : State} (h : s.port.ctx = false) (hr : s.port.smpReady = false) :
    exec .fltSample s = .next (s.beginOp.drive 0) := by
  simp [exec, execFltSample, State.loopOp, h, State.pinReady, hr]

theorem exec_fltReading {s : State} (h : s.port.ctx = false) :
    exec .fltReading s = .next (s.beginOp.drive (s.flt.reading s.cfg)) := by
  simp [exec, execFltReading, State.loopOp, h]

theorem exec_fltMagnitude {s : State} (h : s.port.ctx = false) :
    exec .fltMagnitude s = .next (s.beginOp.drive (s.flt.magnitude s.cfg)) := by
  simp [exec, execFltMagnitude, State.loopOp, h]

theorem exec_dbUpdate {s : State} {i : InputIdx} (h : s.port.ctx = false) (hi : i.val < s.cfg.numInputs) :
    exec (.dbUpdate i) s = .next ({ s.beginOp with db := s.db.update s.cfg i (s.pinDin i) }.drive 0) := by
  simp [exec, execDbUpdate, State.loopOp, h, State.onInput, hi, State.pinDin]

theorem exec_dbGetState {s : State} {i : InputIdx} (h : s.port.ctx = false) (hi : i.val < s.cfg.numInputs) :
    exec (.dbGetState i) s = .next (s.beginOp.drive (bit (s.db.getState s.cfg i))) := by
  simp [exec, execDbGetState, State.loopOp, h, State.onInput, hi]

theorem State.beginOp_level (s : State) (i : InputIdx) : s.beginOp.level i = s.level i := by
  simp [State.level]

theorem exec_evPoll {s : State} {i : InputIdx} (h : s.port.ctx = false) (hi : i.val < s.cfg.numInputs) :
    exec (.evPoll i) s =
      .next ({ s.beginOp with evState := s.evState.set i (s.evState[i].poll (s.level i)) }.drive 0) := by
  simp [exec, execEvPoll, State.loopOp, h, State.onInput, hi, State.beginOp_level]

theorem exec_evConsume {s : State} {i : InputIdx} (h : s.port.ctx = false) (hi : i.val < s.cfg.numInputs) :
    exec (.evConsume i) s = .next ((s.beginOp.consumeEffect i).drive (bit (s.consumeResult i))) := by
  simp [exec, execEvConsume, State.loopOp, h, State.onInput, hi, State.consumeResult]

/-- A format I operation on an absent input only answers 0 (30_encoding.md R96). -/
theorem exec_absentInput {s : State} {i : InputIdx} (h : s.port.ctx = false) (hi : s.cfg.numInputs ≤ i.val) :
    exec (.dbUpdate i) s = .next (s.beginOp.drive 0) ∧ exec (.dbGetState i) s = .next (s.beginOp.drive 0) ∧
      exec (.evPoll i) s = .next (s.beginOp.drive 0) ∧ exec (.evConsume i) s = .next (s.beginOp.drive 0) := by
  have hn : ¬ i.val < s.cfg.numInputs := by omega
  simp [exec, execDbUpdate, execDbGetState, execEvPoll, execEvConsume, State.loopOp, h, State.onInput, hn]

end Sys2Proof.Machine
end

