-- ==== Sys2Proof/Laws/Control.lean ====
section
/-!
SUPPORT. For `CTL.STEP`, once, everything it can do, in the words of Safety.lean; and the laws of the per-input arrays.
-/

namespace Sys2Proof.Machine

/-! The per-input arrays. -/

/-- An array after one place is set: that place holds the new value, every other its old one. -/
theorem vector_get_set {α : Type} (v : Vector α 4) (i j : InputIdx) (x : α) :
    (v.set i x)[j] = if j = i then x else v[j] := by
  by_cases h : j = i
  · subst h; simp
  · simp [h, Fin.val_inj, Ne.symm h]

/-- Setting a place to the value it holds changes nothing. -/
theorem vector_set_self {α : Type} (v : Vector α 4) (i : InputIdx) : v.set i v[i] = v := by simp

/-! The clock's difference and the tests of `CTL.STEP`. -/

theorem elapsedAt_eq_ticksSince (c : Cfg) (t start : Nat) : (elapsedAt c t start : Int) = ticksSince c t start :=
  subW_eq_emod _ _ _

theorem guardActive_iff (s : State) : GuardActive s ↔ s.inGuard s.clk.tick = true := by
  simp only [GuardActive, State.inGuard, ← elapsedAt_eq_ticksSince, hasElapsedAt, Bool.and_eq_true, Bool.not_eq_true',
    decide_eq_false_iff_not, not_le, Nat.cast_lt]

theorem heldLong_iff (s : State) : HeldLong s ↔ s.holdElapsed s.clk.tick = true := by
  simp only [HeldLong, State.holdElapsed, ← elapsedAt_eq_ticksSince, hasElapsedAt, Bool.and_eq_true, decide_eq_true_eq,
    Nat.cast_le]

theorem State.beginOp_inGuard (s : State) (t : Nat) : s.beginOp.inGuard t = s.inGuard t := by
  simp [State.inGuard]

theorem State.beginOp_holdElapsed (s : State) (t : Nat) : s.beginOp.holdElapsed t = s.holdElapsed t := by
  simp [State.holdElapsed, State.beginOp_level]

theorem State.endGuard_level (s : State) (i : InputIdx) : s.endGuard.level i = s.level i := rfl

theorem State.endGuard_holdElapsed (s : State) (t : Nat) : s.endGuard.holdElapsed t = s.holdElapsed t := rfl

theorem EvState.afterConsume_eq (e : EvState) : e.afterConsume = if e = .released then .idle else e := by
  cases e <;> rfl

theorem EvState.consumed_iff (e : EvState) : e.consumed = true ↔ e = .released := by cases e <;> decide

/-- `CTL.STEP` in its own context: the four outcomes, in their priority (44_control.md R190, R202). -/
theorem exec_ctlStep_cases {s : State} (h : s.port.ctx = false) :
    ∃ t, exec .ctlStep s = .next t ∧
      ((s.ctl.diagMode = true ∧ t = (s.beginOp.emit (.value (s.flt.magnitude s.cfg))).drive 0) ∨
       (s.ctl.diagMode = false ∧ GuardActive s ∧
         t = (s.beginOp.guardedStep s.clk.tick (s.flt.magnitude s.cfg)).drive 0) ∨
       (s.ctl.diagMode = false ∧ ¬GuardActive s ∧ HeldLong s ∧
         t = (s.beginOp.endGuard.enterDiag (s.flt.magnitude s.cfg)).drive 0) ∨
       (s.ctl.diagMode = false ∧ ¬GuardActive s ∧ ¬HeldLong s ∧
         t = (((if s.level 0 = true then s.beginOp.endGuard else s.beginOp.endGuard.buttonUp s.clk.tick).consumeEffect 0).control
           s.clk.tick (s.flt.magnitude s.cfg) s.evState[(0 : InputIdx)].consumed).drive 0)) := by
  rcases hd : s.ctl.diagMode with _ | _
  · by_cases hg : s.inGuard s.clk.tick = true
    · exact ⟨_, execCtlStep_eq_next.2 ⟨h, .inr (.inl ⟨hd, by rw [State.beginOp_inGuard, hg], rfl⟩)⟩,
        .inr (.inl ⟨rfl, (guardActive_iff s).2 hg, rfl⟩)⟩
    · refine ⟨_, execCtlStep_eq_next.2 ⟨h, .inr (.inr ⟨hd, by rw [State.beginOp_inGuard]; simpa using hg, rfl⟩)⟩,
        .inr (.inr ?_)⟩
      have hg' : ¬GuardActive s := by rw [guardActive_iff]; exact hg
      by_cases hh : s.holdElapsed s.clk.tick = true
      · refine .inl ⟨rfl, hg', (heldLong_iff s).2 hh, ?_⟩
        simp only [State.openStep, State.endGuard_holdElapsed, State.beginOp_holdElapsed, hh, if_true]
      · refine .inr ⟨rfl, hg', by rw [heldLong_iff]; exact hh, ?_⟩
        simp only [State.openStep, State.endGuard_holdElapsed, State.beginOp_holdElapsed, hh, State.endGuard_level,
          State.beginOp_level]
        cases s.level 0 <;> simp [State.consumeResult]
  · exact ⟨_, execCtlStep_eq_next.2 ⟨h, .inl ⟨hd, rfl⟩⟩, .inl ⟨rfl, rfl⟩⟩

end Sys2Proof.Machine
end

