-- ==== Sys2Proof/Laws/PerInstr.lean ====
section
/-!
SUPPORT. The families of statements about every operation as syntax, one lemma for each constructor of `Instr`.
-/

namespace Sys2Proof.Laws

/-- The word the encoder gives an operation passes the test `(OP and mask) = match` of the row of the opcode table that bears
the operation's mnemonic (30_encoding.md R86, R87). -/
def EncodesRow.Statement (i : Instr) : Prop :=
  ∃ row ∈ opcodeTable, row.mnemonic = i.mnemonic ∧ row.hits (encode i) = true

theorem EncodesRow.sysWait : EncodesRow.Statement .sysWait := by
  unfold EncodesRow.Statement; decide

theorem EncodesRow.clkTick : EncodesRow.Statement .clkTick := by
  unfold EncodesRow.Statement; decide

theorem EncodesRow.clkNow : EncodesRow.Statement .clkNow := by
  unfold EncodesRow.Statement; decide

theorem EncodesRow.clkElapsed : EncodesRow.Statement .clkElapsed := by
  unfold EncodesRow.Statement; decide

theorem EncodesRow.clkHasElapsed : EncodesRow.Statement .clkHasElapsed := by
  unfold EncodesRow.Statement; decide

theorem EncodesRow.fltSample : EncodesRow.Statement .fltSample := by
  unfold EncodesRow.Statement; decide

theorem EncodesRow.fltReading : EncodesRow.Statement .fltReading := by
  unfold EncodesRow.Statement; decide

theorem EncodesRow.fltMagnitude : EncodesRow.Statement .fltMagnitude := by
  unfold EncodesRow.Statement; decide

theorem EncodesRow.dbUpdate (k : InputIdx) : EncodesRow.Statement (.dbUpdate k) := by
  revert k; unfold EncodesRow.Statement; decide

theorem EncodesRow.dbGetState (k : InputIdx) : EncodesRow.Statement (.dbGetState k) := by
  revert k; unfold EncodesRow.Statement; decide

theorem EncodesRow.evPoll (k : InputIdx) : EncodesRow.Statement (.evPoll k) := by
  revert k; unfold EncodesRow.Statement; decide

theorem EncodesRow.evConsume (k : InputIdx) : EncodesRow.Statement (.evConsume k) := by
  revert k; unfold EncodesRow.Statement; decide

theorem EncodesRow.ctlStep : EncodesRow.Statement .ctlStep := by
  unfold EncodesRow.Statement; decide

end Sys2Proof.Laws
end

