-- ==== Sys2Proof/Tests/Slice0.lean ====
section
/-!
SUPPORT. The model's own tests. Expected results come from the vectors of spec/95_test_vectors.md, the examples in the rules and
the words of 30_encoding.md R86; each test names its source. Then, for every obligation with hypotheses, a witness that meets
them: one state for each clause, at the boundary of its range where it has one.
-/

namespace Sys2Proof.Tests

open Sys2Proof.Machine

-- one test after the other: each `decide +kernel` waits for the kernel, and many that wait at once take a thread each
set_option Elab.async false

/-- Whether an outcome is a next state with a property. -/
def after (o : Host.Outcome State Fault Refusal) (f : State → Bool) : Bool :=
  match o with
  | .next t => f t
  | .fault _ => false
  | .refused _ => false

/-- Whether an outcome is this refusal. -/
def refusedAs (o : Host.Outcome State Fault Refusal) (r : Refusal) : Bool :=
  match o with
  | .next _ => false
  | .fault _ => false
  | .refused q => decide (q = r)

/-- `CFG_SMALL` made an instance: `TICK_W` = 10, so that R9(f) holds. No value that the tests take from the vectors of `CFG_SMALL` through
it depends on `TICK_W`. -/
def narrow : Cfg := { Cfg.small with tickW := 10 }

/-- `CFG_REF` and `narrow` after reset, at a given tick. -/
def refAt (tick : Nat) (pin : Bool) : State := { State.reset with clk := ⟨tick, pin⟩ }
def smallAt (tick : Nat) : State := { State.resetOf narrow with clk := ⟨tick, false⟩ }

/-- The same state with the buses `A` and `B`. -/
def buses (s : State) (a b : Nat) : State := { s with port := { s.port with a := a, b := b } }

/-- The same state with the sampler's pins. -/
def sampler (s : State) (ready : Bool) (raw : Nat) : State :=
  { s with port := { s.port with smpReady := ready, smpRaw := raw } }

/-- The same state with all digital inputs at one level. -/
def inputs (s : State) (level : Bool) : State := { s with port := { s.port with din := Vector.replicate 4 level } }

/-- The same state with a full filter of this mean. -/
def fullMean (s : State) (mean : Nat) : State := { s with flt := { s.flt with full := true, mean := mean } }

/-- `narrow` after the guard, with the button's settled raw value, event state and `BTN_UP_TICK` = 0. -/
def button (tick : Nat) (raw : Bool) (e : EvState) : State :=
  { smallAt tick with
    db := { Db.initial with
      validated := Db.initial.validated.set 0 raw
      initialized := Db.initial.initialized.set 0 true }
    evState := (Vector.replicate 4 EvState.idle).set 0 e
    ctl := { Ctl.initial narrow with guardDone := true } }

/-- `narrow` after the guard, in an FSM state with `DWELL_START` = 0 and the magnitude `m`. -/
def fsmAt (k : CState) (tick m : Nat) : State :=
  fullMean { smallAt tick with ctl := { Ctl.initial narrow with guardDone := true, cstate := k } } (512 + m)

/-- Nothing else but this presentation. -/
def shown (s : State) (p : InPort) : State := { s with port := p }

/-! ## WellFormed: a record that each check refuses -/

/-- The check refuses the record, and so does the step of a machine with that record. -/
def rejects (check : Cfg → Bool) (c : Cfg) : Bool :=
  !check c && !c.valid && refusedAs (step { State.reset with cfg := c }) .invalidCfg

theorem smoke_ringOk : rejects Cfg.ringOk { Cfg.ref with n := 63 } = true ∧
    rejects Cfg.ringOk { Cfg.ref with n := 1, log2N := 0 } = true := by decide +kernel
theorem smoke_inputsOk : rejects Cfg.inputsOk { Cfg.ref with numInputs := 0 } = true ∧
    rejects Cfg.inputsOk { Cfg.ref with numInputs := 5 } = true := by decide +kernel
theorem smoke_thresholdsOk : rejects Cfg.thresholdsOk { Cfg.ref with low := 70 } = true ∧
    rejects Cfg.thresholdsOk { Cfg.ref with high := 1024 } = true := by decide +kernel
theorem smoke_zeroRefOk : rejects Cfg.zeroRefOk { Cfg.ref with zeroRef := 1024 } = true := by decide +kernel
theorem smoke_durationsOk : rejects Cfg.durationsOk { Cfg.ref with dwellTicks := 2 ^ 31 } = true ∧
    rejects Cfg.durationsOk { Cfg.ref with offTicks := 2 ^ 31 } = true ∧
    rejects Cfg.durationsOk { Cfg.ref with guardTicks := 2 ^ 31 } = true ∧
    rejects Cfg.durationsOk { Cfg.ref with diagHoldTicks := 2 ^ 31 } = true := by decide +kernel
theorem smoke_widthsOk :
    rejects Cfg.widthsOk { Cfg.ref with tickW := 9, dwellTicks := 5, offTicks := 5, guardTicks := 5, diagHoldTicks := 5 }
      = true := by decide +kernel
theorem smoke_debounceOk : rejects Cfg.debounceOk { Cfg.ref with dbThresh := 0 } = true ∧
    rejects Cfg.debounceOk { Cfg.ref with dbThresh := 128 } = true := by decide +kernel
theorem smoke_defaultsOk :
    rejects Cfg.defaultsOk { Cfg.ref with dbDefault := Vector.replicate 4 false } = true := by decide +kernel
theorem smoke_derivedOk : rejects Cfg.derivedOk { Cfg.ref with max := 1000 } = true ∧
    rejects Cfg.derivedOk { Cfg.ref with mid := 511 } = true ∧
    rejects Cfg.derivedOk { Cfg.ref with dbCntW := 8 } = true := by decide +kernel
theorem smoke_bootOk : rejects Cfg.bootOk { Cfg.ref with bootTick := 2 ^ 32 } = true := by decide +kernel
theorem smoke_accepted : Cfg.ref.valid = true ∧ narrow.valid = true := by decide +kernel
/-- `CFG_SMALL` breaks R9(f) (10 > 8). -/
theorem smoke_small : rejects Cfg.widthsOk Cfg.small = true := by decide +kernel

/-! ## Decode: words written out from 30_encoding.md R86, and R100's examples -/

/-- Whether the word decodes to the operation. -/
def reads (op : OpWord) (i : Instr) : Bool :=
  match decode op with
  | .ok j => decide (j = i)
  | .error _ => false

theorem test_decode_sys : reads 0b00000001 .sysWait = true := by decide
theorem test_decode_clk : reads 0b00010000 .clkTick = true ∧ reads 0b00010001 .clkNow = true ∧
    reads 0b00010010 .clkElapsed = true ∧ reads 0b00010011 .clkHasElapsed = true := by decide
theorem test_decode_flt : reads 0b00100000 .fltSample = true ∧ reads 0b00100001 .fltReading = true ∧
    reads 0b00100010 .fltMagnitude = true := by decide
theorem test_decode_db : reads 0b00110010 (.dbUpdate 2) = true ∧ reads 0b00110100 (.dbGetState 0) = true := by decide
theorem test_decode_ev : reads 0b01000011 (.evPoll 3) = true ∧ reads 0b01000101 (.evConsume 1) = true := by decide
theorem test_decode_ctl : reads 0b01010000 .ctlStep = true := by decide
/-- R90: 231 words are reserved. -/
theorem test_decode_reserved :
    ((List.range 256).filter fun w => (decode (BitVec.ofNat 8 w)).toOption.isNone).length = 231 := by decide +kernel
/-- R100: "`CLK.HASELAPSED 0xFD, 5`", "`EV.CONSUME 1`" (numbers in decimal). -/
theorem test_asm : Instr.asm .clkHasElapsed 0xFD 5 = "CLK.HASELAPSED 253, 5" ∧ Instr.asm (.evConsume 1) 0 0 = "EV.CONSUME 1" := by
  decide +kernel
/-- The host's two questions on one word: the decoder gives the operation, and the next step after reset runs it. -/
theorem test_fetch : decodeTableWord 8 0x11 = some .clkNow ∧ decodeTableWord 8 0x00 = none ∧
    after (step (State.reset.withFetchWord 8 0x10)) (fun t => t.clk.tick == 1 && t.clk.tickPin) = true ∧
    after (step (State.reset.withFetchWord 8 0x34)) (fun t => t.out.r == 1) = true := by decide +kernel

/-! ## One step of each operation -/

/-- R241: "`SYS.WAIT {wake=1} => 0`". -/
theorem test_sysWait : after (exec .sysWait (shown State.reset { InPort.idle with wake := true }))
    (fun t => t.out.r == 0 && !t.hold && t.record.results == [0]) = true ∧
    after (exec .sysWait State.reset) (fun t => t.hold && t.record.results == []) = true := by decide +kernel
/-- 2.1: 0xFFFFFFFF wraps, the pin toggles. -/
theorem test_clkTick : after (exec .clkTick (shown (refAt 0xFFFFFFFF true) { InPort.idle with ctx := true }))
    (fun t => t.clk == ⟨0, false⟩ && t.out.r == 0) = true ∧
    refusedAs (exec .clkTick (refAt 0 false)) .wrongContext = true := by decide +kernel
/-- 2.1. -/
theorem test_clkNow : after (exec .clkNow (refAt 2003 false)) (fun t => t.out.r == 2003) = true := by decide +kernel
/-- E1 and 2.1. -/
theorem test_clkElapsed : after (exec .clkElapsed (buses (refAt 5 false) 0xFFFFFFFB 0)) (fun t => t.out.r == 10) = true ∧
    after (exec .clkElapsed (buses (refAt 7 false) 8 0)) (fun t => t.out.r == 0xFFFFFFFF) = true := by decide +kernel
/-- 2.1, `CFG_SMALL` itself (8-bit wrap): exec checks no record, and only the step refuses this one (log 5). -/
theorem test_clkElapsed_small :
    after (exec .clkElapsed (buses { State.resetOf Cfg.small with clk := ⟨2, false⟩ } 0xFD 0)) (fun t => t.out.r == 5) = true := by
  decide +kernel
/-- E1: the deadline past the wrap. -/
theorem test_clkHasElapsed :
    after (exec .clkHasElapsed (buses (refAt 4 false) 0xFFFFFFFB 10)) (fun t => t.out.r == 0) = true ∧
    after (exec .clkHasElapsed (buses (refAt 5 false) 0xFFFFFFFB 10)) (fun t => t.out.r == 1) = true := by decide +kernel
/-- 2.2, the ring after row 3. -/
def row3 : State :=
  { smallAt 0 with flt := { hist := [(0, 600), (1, 600), (2, 604)], cursor := 3, full := false, mean := 512 } }
/-- 2.2, rows 4 and 5. -/
theorem test_fltSample : after (exec .fltSample (sampler row3 false 999)) (fun t => t.flt == row3.flt && !t.out.smpAck) = true ∧
    after (exec .fltSample (sampler row3 true 604)) (fun t =>
      t.flt == ⟨[(0, 600), (1, 600), (2, 604), (3, 604)], 0, true, 602⟩ && t.out.smpAck) = true := by decide +kernel
/-- 2.2, rows 0 and 6. -/
theorem test_fltReading : after (exec .fltReading (smallAt 0)) (fun t => t.out.r == 512) = true ∧
    after (exec .fltReading (fullMean (smallAt 0) 452)) (fun t => t.out.r == 452) = true := by decide +kernel
/-- 2.2, rows 5 and 6. -/
theorem test_fltMagnitude : after (exec .fltMagnitude (fullMean (smallAt 0) 602)) (fun t => t.out.r == 90) = true ∧
    after (exec .fltMagnitude (fullMean (smallAt 0) 452)) (fun t => t.out.r == 60) = true := by decide +kernel
/-- 2.3, the debounce state after row 3. -/
def counted : State :=
  { smallAt 0 with db := { Db.initial with lastRaw := Db.initial.lastRaw.set 0 true, cnt := Db.initial.cnt.set 0 2 } }
/-- 2.3, row 4 (the commit), and a read that differs. -/
theorem test_dbUpdate : after (exec (.dbUpdate 0) (inputs counted true))
      (fun t => t.db.cnt[0] == 3 && t.db.validated[0] && t.db.initialized[0]) = true ∧
    after (exec (.dbUpdate 0) (inputs counted false))
      (fun t => !t.db.lastRaw[0] && t.db.cnt[0] == 0 && !t.db.initialized[0]) = true := by decide +kernel
/-- 2.3, row 1 (the default) and row 11. -/
theorem test_dbGetState : after (exec (.dbGetState 0) (smallAt 0)) (fun t => t.out.r == 1) = true ∧
    after (exec (.dbGetState 0) (button 0 false .idle)) (fun t => t.out.r == 0) = true := by decide +kernel
/-- E4, steps 3 and 6. -/
theorem test_evPoll : after (exec (.evPoll 0) (button 0 false .idle)) (fun t => t.evState[0] == .held) = true ∧
    after (exec (.evPoll 0) (button 0 true .held)) (fun t => t.evState[0] == .released) = true := by decide +kernel
/-- E4, steps 5 and 8. -/
theorem test_evConsume : after (exec (.evConsume 0) (button 0 false .held)) (fun t => t.evState[0] == .held && t.out.r == 0) = true ∧
    after (exec (.evConsume 0) (button 0 true .released)) (fun t => t.evState[0] == .idle && t.out.r == 1) = true := by
  decide +kernel
/-- E5, step 2003: `STOP` after the dwell, to `TOFF`. -/
theorem test_ctlStep_dwell : after (exec .ctlStep (fullMean
      { refAt 2003 false with
        ctl := { Ctl.initial Cfg.ref with cstate := .dwell, dwellStart := 3, guardDone := true, socketReq := true } } 552))
    (fun t => t.out.cmd == .stop && t.ctl.cstate == .turningOff && t.ctl.dwellStart == 2003 && !t.ctl.socketReq) = true := by
  decide +kernel
/-- E7(a), pass 3199: the button held for 2000 ticks since 1199 enters diagnostic mode. -/
theorem test_ctlStep_diag : after (exec .ctlStep
      { button 0 false .held with
        cfg := Cfg.ref, clk := ⟨3199, false⟩
        ctl := { Ctl.initial Cfg.ref with guardDone := true, btnUpTick := 1199 } })
    (fun t => t.out.cmd == .value 0 && t.ctl.diagMode && t.evState[0] == .held && !t.ctl.socketReq) = true := by
  decide +kernel

/-! ## Witnesses: states that meet the hypotheses of each obligation -/

/-- A presentation of the sequencer with every pin at 1. -/
def busy : InPort :=
  { InPort.idle with a := 5, b := 1, wake := true, smpReady := true, smpRaw := 600, din := Vector.replicate 4 true }

/-- Both ends of the last reserved range, and the model's refusal of one (R90). -/
theorem witness_ReservedWordsAreRefused :
    (State.reset.withFetchWord 8 0x60).cfg.valid = true ∧ (State.reset.withFetchWord 8 0x60).port.rst = false ∧
    (State.reset.withFetchWord 8 0x60).port.opValid = true ∧
    (∀ w ∈ [0x00, 0x02, 0x0F, 0x14, 0x1F, 0x23, 0x2F, 0x38, 0x3F, 0x48, 0x4F, 0x51, 0x5F, 0x60, 0xFF],
      (decode (State.reset.withFetchWord 8 w).port.op).toOption = none) := by decide +kernel

theorem witness_ContextAloneDecidesRefusal :
    State.reset.port.ctx = decide (Instr.ctlStep = .clkTick) ∧
    (shown State.reset { busy with ctx := true }).port.ctx = decide (Instr.clkTick = .clkTick) ∧
    State.reset.port.ctx ≠ decide (Instr.clkTick = .clkTick) := by decide

theorem witness_StepRunsThePresentedOperation :
    (State.reset.withFetchWord 8 0x50).cfg.valid = true ∧ (State.reset.withFetchWord 8 0x50).port.rst = false ∧
    (State.reset.withFetchWord 8 0x50).port.opValid = true ∧
    reads (State.reset.withFetchWord 8 0x50).port.op .ctlStep = true ∧
    after (exec .ctlStep (State.reset.withFetchWord 8 0x50)) (fun _ => true) = true ∧
    refusedAs (exec .ctlStep (shown State.reset { busy with ctx := true })) .wrongContext = true := by decide +kernel

theorem witness_ResetRestoresEveryElement :
    (shown (fsmAt .dwell 9 80) { busy with rst := true }).cfg.valid = true ∧
    (shown (fsmAt .dwell 9 80) { busy with rst := true }).port.rst = true := by decide +kernel

/-- The magnitude after reset at `HIGH` itself, and below it; `BOOT_TICK` 0, and at the end of its range. -/
theorem witness_ResetIsObservedAsIdleAndStopped :
    Cfg.ref.valid = true ∧ 0 < Cfg.ref.guardTicks ∧ (State.resetOf Cfg.ref).flt.magnitude Cfg.ref ≤ Cfg.ref.high ∧
    ({ Cfg.ref with zeroRef := 442, guardTicks := 1 } : Cfg).valid = true ∧
    (State.resetOf { Cfg.ref with zeroRef := 442, guardTicks := 1 }).flt.magnitude { Cfg.ref with zeroRef := 442 } = 70 ∧
    ({ Cfg.ref with bootTick := 2 ^ 32 - 1 } : Cfg).valid = true ∧
    0 < ({ Cfg.ref with bootTick := 2 ^ 32 - 1 } : Cfg).guardTicks ∧
    (State.resetOf { Cfg.ref with bootTick := 2 ^ 32 - 1 }).flt.magnitude Cfg.ref ≤ Cfg.ref.high := by
  decide +kernel

theorem witness_OnlyInstancesRun :
    ({ Cfg.ref with numInputs := 5 } : Cfg).valid = false ∧ Cfg.small.valid = false ∧ Cfg.ref.valid = true := by decide +kernel

theorem witness_SysWaitCompletesOnWake :
    (shown State.reset busy).port.ctx = false ∧ (shown State.reset busy).port.wake = true := by decide

theorem witness_SysWaitHoldsWithoutWake : State.reset.port.ctx = false ∧ State.reset.port.wake = false := by decide

/-- A hold that nothing wakes; then idle steps: held and woken, held and not, not held and woken. -/
theorem witness_HoldLastsWhileNothingWakes :
    ({ State.reset with hold := true } : State).cfg.valid = true ∧ ({ State.reset with hold := true } : State).hold = true ∧
    (∀ p ∈ State.reset.port :: State.reset.pending, p.rst = false ∧ p.opValid = false ∧ p.wake = false) ∧
    (∀ h ∈ [true, false], ∀ p ∈ [busy, InPort.idle],
      (shown { State.reset with hold := h } p).cfg.valid = true ∧ (shown { State.reset with hold := h } p).port.rst = false ∧
      (shown { State.reset with hold := h } p).port.opValid = false) ∧
    (shown { State.reset with hold := true } busy).port.wake = true := by
  decide +kernel

/-- R241: an assertion of `WAKE` by the environment ends the hold and changes no element. -/
theorem test_wake : after (step (shown { State.reset with hold := true } busy))
    (fun t => !t.hold && t.record.results == [0] && t.clk == State.reset.clk && t.db == State.reset.db) = true := by decide +kernel

theorem witness_TickEndsHold :
    (shown { State.reset with hold := true } { InPort.idle with ctx := true }).port.ctx = true ∧
    (shown { State.reset with hold := true } { InPort.idle with ctx := true }).hold = true := by decide

theorem witness_ClkTickAdvancesTheCounter :
    (shown State.reset { InPort.idle with ctx := true }).port.ctx = true ∧ State.reset.port.ctx = false ∧
    after (exec .clkNow State.reset) (fun _ => true) = true := by decide +kernel

theorem witness_ClkNowReadsTheCounter : (refAt 2003 true).port.ctx = false := by decide

/-- `A` = `TICK`, `TICK` below `A`, and `A` = `TICK` + 1 at the end of the range. -/
theorem witness_ClkElapsedIsTheModularDifference :
    (∀ a ∈ [7, 8, 0xFFFFFFFF], (buses (refAt 7 false) a 0).port.ctx = false ∧
      (buses (refAt 7 false) a 0).port.a < 2 ^ Cfg.ref.tickW ∧ (buses (refAt 7 false) a 0).clk.tick < 2 ^ Cfg.ref.tickW) ∧
    (buses (refAt 7 false) 7 0).port.a = (refAt 7 false).clk.tick ∧
    (refAt 7 false).clk.tick < (buses (refAt 7 false) 0xFFFFFFFF 0).port.a ∧
    (refAt 7 false).clk.tick = addW Cfg.ref.tickW (buses (refAt 7 false) 0xFFFFFFFF 0).port.a (2 ^ 32 + 8) ∧
    (buses (refAt 7 false) 8 0).port.a = (refAt 7 false).clk.tick + 1 := by decide +kernel

/-- `B` = 0, and `B` at the end of its range with the difference there and one below. -/
theorem witness_ClkHasElapsedComparesTheDifference :
    (∀ b ∈ [0, 0xFFFFFFFF], ∀ a ∈ [1, 2], (buses (refAt 0 false) a b).port.ctx = false ∧
      (buses (refAt 0 false) a b).port.a < 2 ^ Cfg.ref.tickW ∧ (buses (refAt 0 false) a b).port.b < 2 ^ Cfg.ref.tickW ∧
      (buses (refAt 0 false) a b).clk.tick < 2 ^ Cfg.ref.tickW) ∧
    (buses (refAt 0 false) 1 0).port.b = 0 ∧ (buses (refAt 0 false) 1 0xFFFFFFFF).port.b = 2 ^ Cfg.ref.tickW - 1 ∧
    ((refAt 0 false).clk.tick + 1) % 2 ^ Cfg.ref.tickW = (buses (refAt 0 false) 1 0xFFFFFFFF).port.a ∧
    ((refAt 0 false).clk.tick + 1) % 2 ^ Cfg.ref.tickW ≠ (buses (refAt 0 false) 2 0xFFFFFFFF).port.a ∧
    (refAt 0 false).clk.tick = addW Cfg.ref.tickW (buses (refAt 0 false) 1 0xFFFFFFFF).port.a (2 ^ 32 - 1) := by decide +kernel

theorem witness_ElapsedCountsTheTicksRun :
    (smallAt 1023).cfg.valid = true ∧ (smallAt 1023).clk.tick < 2 ^ (smallAt 1023).cfg.tickW := by decide +kernel

/-- Not ready; ready before the last slot, at the last slot, and with the ring full. -/
theorem witness_FltSampleConsumesOneSample :
    (∀ s ∈ [sampler row3 false 999, sampler row3 true 1023, sampler (smallAt 0) true 0, sampler (fullMean row3 600) true 604],
      s.port.ctx = false ∧ s.port.smpRaw < 2 ^ s.cfg.sampleW ∧ s.flt.hist.wf) ∧
    (sampler row3 false 999).port.smpReady = false ∧ row3.flt.cursor = row3.cfg.n - 1 ∧
    (smallAt 0).flt.cursor ≠ (smallAt 0).cfg.n - 1 ∧ (fullMean row3 600).flt.full = true := by decide +kernel

theorem witness_FltReadingIsTheMeanOrTheMidpoint :
    (smallAt 0).port.ctx = false ∧ (smallAt 0).flt.full = false ∧ (fullMean (smallAt 0) 452).flt.full = true ∧
    after (exec .fltSample (sampler row3 true 604))
      (fun t => t.flt.reading t.cfg != (sampler row3 true 604).flt.reading (sampler row3 true 604).cfg) = true := by
  decide +kernel

theorem witness_FltMagnitudeIsTheDistance : (fullMean (smallAt 0) 452).port.ctx = false := by decide

/-- Fewer samples than the window, and the window exactly. -/
theorem witness_FilterAveragesTheNewestWindow :
    narrow.valid = true ∧ (∀ x ∈ [0, 1023, 604], x < 2 ^ narrow.sampleW) ∧ [0, 1023, 604].length < narrow.n ∧
    (∀ x ∈ [0, 1023, 604, 1], x < 2 ^ narrow.sampleW) ∧ ¬[0, 1023, 604, 1].length < narrow.n := by decide +kernel

theorem witness_FilterConvergesOnAFullWindow : Cfg.ref.valid = true ∧ 1023 < 2 ^ Cfg.ref.sampleW := by decide +kernel

/-- The ring of 2.2 row 5, in an instance that meets every constraint of R9. -/
def filled : State :=
  { smallAt 0 with
    flt := { hist := [(0, 600), (1, 600), (2, 604), (3, 604)], cursor := 0, full := true, mean := 602 } }

theorem filled_inv : filled.inv := by
  refine ⟨by decide +kernel, by unfold Clk.inv; decide +kernel, ⟨by decide +kernel, by decide +kernel, by decide +kernel, ?_, ?_⟩,
    by unfold Db.inv; decide +kernel, by unfold evInv; decide +kernel, by unfold Ctl.inv; decide +kernel,
    by unfold absentInputsInv; decide +kernel⟩
  · exact fun h => absurd h (by decide)
  · exact fun _ => by decide +kernel

theorem witness_MeanLiesWithinTheWindow : filled.inv ∧ filled.flt.full = true := ⟨filled_inv, by decide⟩

/-- An absent input, and a present one with a changed read, a counted one and a committing one. -/
theorem witness_DbUpdateCountsAndCommits :
    counted.port.ctx = false ∧ counted.cfg.numInputs ≤ (1 : InputIdx).val ∧ (0 : InputIdx).val < counted.cfg.numInputs ∧
    (inputs counted false).port.din[(0 : InputIdx)] ≠ counted.db.lastRaw[(0 : InputIdx)] ∧
    (inputs counted true).port.din[(0 : InputIdx)] = counted.db.lastRaw[(0 : InputIdx)] ∧
    counted.db.cnt[(0 : InputIdx)] + 1 = counted.cfg.dbThresh ∧
    (inputs (smallAt 0) false).port.din[(0 : InputIdx)] = (smallAt 0).db.lastRaw[(0 : InputIdx)] ∧
    (smallAt 0).db.cnt[(0 : InputIdx)] + 1 < (smallAt 0).cfg.dbThresh := by decide +kernel

theorem witness_DbGetStateReportsTheSettledValue :
    (button 0 false .idle).port.ctx = false ∧ (button 0 false .idle).cfg.numInputs ≤ (1 : InputIdx).val ∧
    (0 : InputIdx).val < (button 0 false .idle).cfg.numInputs := by decide

theorem witness_HeldRawValueIsCommitted : counted.cfg.valid = true ∧ (0 : InputIdx).val < counted.cfg.numInputs := by
  decide +kernel

theorem witness_ValidatedChangesOnlyOnCommit :
    after (exec (.dbUpdate 0) (inputs counted true))
      (fun t => t.db.validated[(0 : InputIdx)] != (inputs counted true).db.validated[(0 : InputIdx)]) = true := by decide +kernel

theorem witness_AbsentInputIsANoOperation :
    (smallAt 0).port.ctx = false ∧ (smallAt 0).cfg.numInputs ≤ (1 : InputIdx).val := by decide

theorem witness_EvPollFollowsTheTransitionTable :
    (button 0 false .idle).port.ctx = false ∧ (button 0 false .idle).cfg.numInputs ≤ (1 : InputIdx).val ∧
    (0 : InputIdx).val < (button 0 false .idle).cfg.numInputs ∧
    (smallAt 0).cfg.valid = true ∧ (smallAt 0).db.initialized[(0 : InputIdx)] = false ∧
    (smallAt 0).evState[(0 : InputIdx)] = .idle := by decide +kernel

theorem witness_EvConsumeTakesTheEvent :
    (button 0 true .released).port.ctx = false ∧ (0 : InputIdx).val < (button 0 true .released).cfg.numInputs ∧
    (button 0 true .released).evState[(0 : InputIdx)] = .released ∧
    (button 0 true .held).evState[(0 : InputIdx)] ≠ .released ∧
    (button 0 true .released).cfg.numInputs ≤ (1 : InputIdx).val := by decide

/-- Diagnostic mode. -/
def diagnosing : State := { fsmAt .dwell 9 60 with ctl := { Ctl.initial narrow with guardDone := true, diagMode := true } }

theorem witness_CtlStepInDiagnosticModeEmitsTheMagnitude : diagnosing.port.ctx = false ∧ diagnosing.ctl.diagMode = true := by
  decide

/-- `narrow` with the guard not done, at a tick: the guard is active up to tick 3 and not at tick 4. -/
theorem guard_boundary : GuardActive (smallAt 3) ∧ ¬GuardActive (smallAt 4) := by
  unfold GuardActive ticksSince; decide +kernel

theorem witness_CtlStepDuringTheGuardDiscardsTheButton :
    ((smallAt 3).port.ctx = false ∧ (smallAt 3).ctl.diagMode = false ∧ GuardActive (smallAt 3)) ∧
    ((smallAt 4).port.ctx = false ∧ (smallAt 4).ctl.diagMode = false ∧ ¬GuardActive (smallAt 4)) := by
  have h := guard_boundary
  exact ⟨⟨by decide, by decide, h.1⟩, ⟨by decide, by decide, h.2⟩⟩

/-- The button pressed since tick 0: held long at tick 6 and not at tick 5; not pressed. -/
theorem hold_boundary : HeldLong (button 6 false .held) ∧ ¬HeldLong (button 5 false .held) ∧ ¬HeldLong (button 9 true .idle) := by
  unfold HeldLong ticksSince; decide +kernel

theorem button_unguarded (tick : Nat) (raw : Bool) (e : EvState) : ¬GuardActive (button tick raw e) := by
  unfold GuardActive button; simp

theorem witness_CtlStepHoldDetector :
    (∀ s ∈ [button 9 true .idle, button 5 false .held, button 6 false .held],
      s.port.ctx = false ∧ s.ctl.diagMode = false ∧ ¬GuardActive s) ∧
    (button 9 true .idle).level 0 = false ∧ (button 5 false .held).level 0 = true ∧ ¬HeldLong (button 5 false .held) ∧
    HeldLong (button 6 false .held) := by
  refine ⟨?_, by decide, by decide, hold_boundary.2.1, hold_boundary.1⟩
  unfold GuardActive ticksSince; decide +kernel

theorem witness_CtlStepTogglesOnACompletedPress :
    (∀ s ∈ [button 9 true .released, button 5 false .held],
      s.port.ctx = false ∧ s.ctl.diagMode = false ∧ ¬GuardActive s ∧ ¬HeldLong s) ∧
    (button 9 true .released).evState[(0 : InputIdx)] = .released ∧
    (button 5 false .held).evState[(0 : InputIdx)] ≠ .released := by
  unfold GuardActive HeldLong ticksSince; decide +kernel

/-- The magnitude one above `HIGH`, and at it. -/
theorem witness_FsmIdleStartsAboveHigh :
    (∀ s ∈ [fsmAt .idle 9 71, fsmAt .idle 9 70], s.port.ctx = false ∧ FsmRuns s ∧ s.ctl.cstate = .idle) ∧
    (fsmAt .idle 9 71).cfg.high < (fsmAt .idle 9 71).flt.magnitude narrow ∧
    (fsmAt .idle 9 70).flt.magnitude narrow = (fsmAt .idle 9 70).cfg.high := by
  unfold FsmRuns GuardActive HeldLong ticksSince; decide +kernel

/-- The magnitude one below `LOW`, and at it. -/
theorem witness_FsmTurningOnDwellsBelowLow :
    (∀ s ∈ [fsmAt .turningOn 9 49, fsmAt .turningOn 9 50], s.port.ctx = false ∧ FsmRuns s ∧ s.ctl.cstate = .turningOn) ∧
    (fsmAt .turningOn 9 49).flt.magnitude narrow < (fsmAt .turningOn 9 49).cfg.low ∧
    (fsmAt .turningOn 9 50).cfg.low = (fsmAt .turningOn 9 50).flt.magnitude narrow := by
  unfold FsmRuns GuardActive HeldLong ticksSince; decide +kernel

/-- The magnitude one above `LOW`; at it with the dwell just over, and one tick short. -/
theorem witness_FsmDwellResumesOrStops :
    (∀ s ∈ [fsmAt .dwell 9 51, fsmAt .dwell 5 50, fsmAt .dwell 4 50], s.port.ctx = false ∧ FsmRuns s ∧ s.ctl.cstate = .dwell) ∧
    (fsmAt .dwell 9 51).cfg.low < (fsmAt .dwell 9 51).flt.magnitude narrow ∧
    (fsmAt .dwell 5 50).flt.magnitude narrow = (fsmAt .dwell 5 50).cfg.low ∧
    (5 : Int) = ticksSince narrow (fsmAt .dwell 5 50).clk.tick (fsmAt .dwell 5 50).ctl.dwellStart ∧
    ticksSince narrow (fsmAt .dwell 4 50).clk.tick (fsmAt .dwell 4 50).ctl.dwellStart < 5 := by
  unfold FsmRuns GuardActive HeldLong ticksSince; decide +kernel

/-- The magnitude one above `HIGH`; at it with the off window just over, and one tick short. -/
theorem witness_FsmTurningOffResumesOrRests :
    (∀ s ∈ [fsmAt .turningOff 9 71, fsmAt .turningOff 5 70, fsmAt .turningOff 4 70],
      s.port.ctx = false ∧ FsmRuns s ∧ s.ctl.cstate = .turningOff) ∧
    (fsmAt .turningOff 9 71).cfg.high < (fsmAt .turningOff 9 71).flt.magnitude narrow ∧
    (fsmAt .turningOff 5 70).flt.magnitude narrow = (fsmAt .turningOff 5 70).cfg.high ∧
    (5 : Int) = ticksSince narrow (fsmAt .turningOff 5 70).clk.tick (fsmAt .turningOff 5 70).ctl.dwellStart ∧
    ticksSince narrow (fsmAt .turningOff 4 70).clk.tick (fsmAt .turningOff 4 70).ctl.dwellStart < 5 := by
  unfold FsmRuns GuardActive HeldLong ticksSince; decide +kernel

/-- The press that switches current control off, a later step of manual mode, and a step with current control on. -/
theorem witness_GateSelectsTheCommand :
    (∀ s ∈ [button 9 true .released,
        { button 9 true .idle with ctl := { Ctl.initial narrow with guardDone := true, currentControl := false } }],
      s.port.ctx = false ∧ FsmRuns s ∧
        after (exec .ctlStep s) (fun t => !t.ctl.currentControl) = true) ∧
    (button 9 true .released).ctl.currentControl = true ∧
    (fsmAt .dwell 5 50).port.ctx = false ∧ FsmRuns (fsmAt .dwell 5 50) ∧
    after (exec .ctlStep (fsmAt .dwell 5 50)) (fun t => t.ctl.currentControl) = true := by
  unfold FsmRuns GuardActive HeldLong ticksSince; decide +kernel

theorem witness_CtlStepAlwaysEmitsOneCommand : (fsmAt .dwell 5 50).port.ctx = false := by decide

theorem witness_ControlStateLeavesOnlyByItsEvents :
    ((fsmAt .dwell 5 50).withFetchWord 8 0x50).port.rst = false ∧
    after (step ((fsmAt .dwell 5 50).withFetchWord 8 0x50)) (fun t => t.ctl.cstate != .dwell) = true := by decide +kernel

/-- The first and the last of the steps that wait. -/
theorem witness_DwellEndsExactlyOnTime :
    (fsmAt .turningOn 1023 49).cfg.valid = true ∧ (fsmAt .turningOn 1023 49).clk.tick < 2 ^ (fsmAt .turningOn 1023 49).cfg.tickW ∧
    (fsmAt .turningOn 1023 49).ctl.cstate = .turningOn ∧
    (fsmAt .turningOn 1023 49).flt.magnitude narrow < (fsmAt .turningOn 1023 49).cfg.low ∧
    (fsmAt .turningOn 1023 49).ctl.currentControl = true ∧ (fsmAt .turningOn 1023 49).ctl.diagMode = false ∧
    (fsmAt .turningOn 1023 49).ctl.guardDone = true ∧ (fsmAt .turningOn 1023 49).level 0 = false ∧
    (fsmAt .turningOn 1023 49).evState[(0 : InputIdx)] ≠ .released ∧ (fsmAt .turningOn 1023 49).cfg.dwellTicks = 5 := by
  decide +kernel

theorem witness_GuardProtectsTheModes :
    after (exec .ctlStep (smallAt 3)) (fun _ => true) = true ∧ (smallAt 3).ctl.diagMode = false ∧ GuardActive (smallAt 3) :=
  ⟨by decide +kernel, by decide, guard_boundary.1⟩

theorem witness_DiagnosticModeIsIrreversible :
    diagnosing.ctl.diagMode = true ∧ (∀ p ∈ (diagnosing.withFetchWord 8 0x50).port :: diagnosing.pending, p.rst = false) ∧
    after (Sys2Proof.core.run 1 (diagnosing.withFetchWord 8 0x50)) (fun t => t.record.commands == [.value 60]) = true := by
  decide +kernel

theorem witness_InvariantHoldsAtReset : Cfg.ref.valid = true ∧ narrow.valid = true := by decide +kernel

theorem witness_InvariantIsKept :
    filled.inv ∧ after (step (filled.withFetchWord 8 0x20)) (fun _ => true) = true := ⟨filled_inv, by decide +kernel⟩

theorem witness_StickyFlagsStaySet :
    ((fullMean (button 6 false .held) 600).withFetchWord 8 0x50).port.rst = false ∧
    after (step ((fullMean (button 6 false .held) 600).withFetchWord 8 0x50)) (fun t =>
      t.flt.full && t.ctl.diagMode && t.ctl.guardDone && t.db.initialized[(0 : InputIdx)]) = true := by decide +kernel

/-- `CTL.STEP` takes the event of input 0. -/
theorem witness_EachElementHasOneOwner :
    after (exec .ctlStep (button 9 true .released))
      (fun t => t.evState[(0 : InputIdx)] != (button 9 true .released).evState[(0 : InputIdx)]) = true := by decide +kernel

theorem witness_ParametersAreNeverWritten :
    after (Sys2Proof.core.run 3 (State.reset.load [{ busy with rst := true }, busy.present .fltSample])) (fun _ => true) = true := by
  decide +kernel

theorem witness_TickPinIsTheLowBitOfTick :
    Cfg.ref.valid = true ∧ Cfg.ref.bootTick % 2 = 0 ∧ (refAt 0xFFFFFFFF true).cfg = Cfg.ref ∧
    after (step ((refAt 0xFFFFFFFF true).withFetchWord 8 0x10)) (fun _ => true) = true ∧
    (refAt 0xFFFFFFFF true).clk.tickPin = decide ((refAt 0xFFFFFFFF true).clk.tick % 2 = 1) := by decide +kernel

theorem witness_OutputsFitTheirPorts :
    filled.inv ∧ after (step (filled.withFetchWord 8 0x21)) (fun _ => true) = true :=
  ⟨filled_inv, by decide +kernel⟩

/-- Everything but the sampled pins differs. -/
theorem witness_PinsAreSeenOnlyWhenSampled :
    busy.ctx = (smallAt 3).port.ctx ∧ busy ≠ (smallAt 3).port ∧
    (∀ i ∈ [Instr.clkElapsed, .clkHasElapsed], i = .clkElapsed ∨ i = .clkHasElapsed → { busy with a := 0, b := 0 }.a = (smallAt 3).port.a) ∧
    ({ busy with b := 0 } : InPort).b = (smallAt 3).port.b ∧
    ({ busy with smpReady := false, smpRaw := 0 } : InPort).smpReady = (smallAt 3).port.smpReady ∧
    ({ busy with smpReady := false, smpRaw := 0 } : InPort).smpRaw = (smallAt 3).port.smpRaw ∧
    ({ busy with din := Vector.replicate 4 false } : InPort).din[(0 : InputIdx)] = (smallAt 3).port.din[(0 : InputIdx)] ∧
    ({ busy with wake := false } : InPort).wake = (smallAt 3).port.wake ∧
    after (exec .ctlStep (smallAt 3)) (fun _ => true) = true ∧
    refusedAs (exec .clkTick (smallAt 3)) .wrongContext = true := by decide +kernel

theorem witness_TickCommutesWithAllButCtlStep :
    (smallAt 3).cfg.valid = true ∧ ∀ i ∈ [Instr.evPoll 0, .sysWait], i ≠ .ctlStep ∧ i ≠ .clkTick := by decide +kernel

theorem witness_PassExpandsAndCompletes : (smallAt 3).cfg.valid = true := by decide +kernel

theorem witness_ConformingRunsNeverStop :
    ((smallAt 3).load [busy.present .ctlStep, { busy with rst := true }, busy.present .clkTick]).conforming = true := by
  decide +kernel

end Sys2Proof.Tests
end

section
/-!
PROOFS. Which parameter records run (00_scope.md R9), and that a machine whose agents conform never stops
(00_scope.md R15). The laws come first: each check of a record in words, that every operation completes in its own context, and
what a run keeps when every step keeps it.
-/

namespace Sys2Proof

/-! The checks of a parameter record, each in words (00_scope.md R9; the last two are log 5). -/

@[simp] theorem Cfg.ringOk_iff (c : Cfg) : c.ringOk = true ↔ c.n = 2 ^ c.log2N ∧ 1 ≤ c.log2N := by
  simp [Cfg.ringOk]

@[simp] theorem Cfg.inputsOk_iff (c : Cfg) : c.inputsOk = true ↔ 1 ≤ c.numInputs ∧ c.numInputs ≤ 4 := by
  simp [Cfg.inputsOk]

@[simp] theorem Cfg.thresholdsOk_iff (c : Cfg) : c.thresholdsOk = true ↔ c.low < c.high ∧ c.high ≤ c.max := by
  simp [Cfg.thresholdsOk]

@[simp] theorem Cfg.zeroRefOk_iff (c : Cfg) : c.zeroRefOk = true ↔ c.zeroRef ≤ c.max := by
  simp [Cfg.zeroRefOk]

@[simp] theorem Cfg.durationsOk_iff (c : Cfg) :
    c.durationsOk = true ↔
      c.dwellTicks < 2 ^ (c.tickW - 1) ∧ c.offTicks < 2 ^ (c.tickW - 1) ∧
        c.guardTicks < 2 ^ (c.tickW - 1) ∧ c.diagHoldTicks < 2 ^ (c.tickW - 1) := by
  simp [Cfg.durationsOk, and_assoc]

@[simp] theorem Cfg.widthsOk_iff (c : Cfg) : c.widthsOk = true ↔ c.sampleW ≤ c.tickW := by
  simp [Cfg.widthsOk]

@[simp] theorem Cfg.debounceOk_iff (c : Cfg) :
    c.debounceOk = true ↔ 1 ≤ c.dbThresh ∧ c.dbThresh < 2 ^ c.dbCntW := by
  simp [Cfg.debounceOk]

@[simp] theorem Cfg.defaultsOk_iff (c : Cfg) :
    c.defaultsOk = true ↔ ∀ i : InputIdx, i.val < c.numInputs → c.dbDefault[i] = c.activeLow[i] := by
  simp [Cfg.defaultsOk, or_iff_not_imp_left]

@[simp] theorem Cfg.derivedOk_iff (c : Cfg) :
    c.derivedOk = true ↔
      c.max = 2 ^ c.sampleW - 1 ∧ c.mid = 2 ^ (c.sampleW - 1) ∧ 2 ^ (c.dbCntW - 1) ≤ c.dbThresh := by
  simp [Cfg.derivedOk, and_assoc]

@[simp] theorem Cfg.bootOk_iff (c : Cfg) : c.bootOk = true ↔ c.bootTick < 2 ^ c.tickW := by
  simp [Cfg.bootOk]

namespace Machine

/-- A record that breaks a constraint runs nothing, whatever is presented (00_scope.md R9). -/
theorem step_invalidCfg {s : State} (h : s.cfg.valid = false) : step s = .refused .invalidCfg := by
  simp [step, h]

/-- Settles O10: the record's checks in words, and the two records of R8 and R10 evaluated. -/
theorem onlyInstancesRun : Obligations.OnlyInstancesRun := by
  unfold Obligations.OnlyInstancesRun
  refine ⟨fun _ => step_invalidCfg, fun c => ?_, by decide +kernel, by decide +kernel, by decide, by decide +kernel⟩
  simp [Cfg.valid, and_assoc]

/-! What no operation touches (10_state.md R41). -/

theorem State.drive_outsideKept (s : State) (v : Nat) : OutsideKept s (s.drive v) := ⟨rfl, rfl, rfl⟩

theorem State.beginOp_outsideKept (s : State) : OutsideKept s s.beginOp := by simp [OutsideKept]

theorem State.idleOp_outsideKept (s : State) : OutsideKept s s.idleOp := by simp [OutsideKept]

theorem State.applyReset_outsideKept (s : State) : OutsideKept s s.applyReset := ⟨rfl, rfl, rfl⟩

theorem OutsideKept.trans {s t u : State} (hst : OutsideKept s t) (htu : OutsideKept t u) : OutsideKept s u := by
  obtain ⟨hcfg, hport, hpending⟩ := hst
  obtain ⟨hcfg', hport', hpending'⟩ := htu
  exact ⟨hcfg'.trans hcfg, hport'.trans hport, hpending'.trans hpending⟩

/-- A format I operation touches nothing outside if its meaning on a present input does not. -/
theorem State.onInput_outsideKept {body : State → State} (s : State) (i : InputIdx)
    (hbody : OutsideKept s (body s)) : OutsideKept s (s.onInput i body) := by
  unfold State.onInput
  split
  · exact hbody
  · exact s.drive_outsideKept 0

/-- A format I operation completes with `CTX` = 0, on a present input or not (30_encoding.md R96), and touches nothing
outside if its meaning on a present input does not. -/
theorem State.loopOp_onInput_completes {body : State → State} {s : State} (i : InputIdx) (hctx : s.port.ctx = false)
    (hbody : ∀ u, OutsideKept u (body u)) :
    ∃ t, s.loopOp (fun u => u.onInput i body) = .next t ∧ OutsideKept s t :=
  ⟨_, State.loopOp_eq_next.2 ⟨hctx, rfl⟩, s.beginOp_outsideKept.trans (State.onInput_outsideKept _ i (hbody _))⟩

/-- `CTL.STEP` completes with `CTX` = 0 by whichever of its four outcomes (44_control.md R202), and touches nothing outside. -/
theorem exec_ctlStep_completes {s : State} (hctx : s.port.ctx = false) :
    ∃ t, exec .ctlStep s = .next t ∧ OutsideKept s t := by
  obtain ⟨t, hexec, ⟨-, rfl⟩ | ⟨-, -, rfl⟩ | ⟨-, -, -, rfl⟩ | ⟨-, -, -, rfl⟩⟩ := exec_ctlStep_cases hctx
  · exact ⟨_, hexec, by simp [OutsideKept]⟩
  · exact ⟨_, hexec, by simp [OutsideKept, State.guardedStep]⟩
  · exact ⟨_, hexec, by simp [OutsideKept]⟩
  · exact ⟨_, hexec, by split <;> simp [OutsideKept]⟩

/-- In its own context every operation completes, and it touches neither parameters nor presentations
(30_encoding.md R97, 60_exceptions.md R250, 10_state.md R41). -/
theorem exec_completes {i : Instr} {s : State} (hctx : s.port.ctx = i.tickContext) :
    ∃ t, exec i s = .next t ∧ OutsideKept s t := by
  cases i with
  | sysWait => exact ⟨_, exec_sysWait hctx, by split <;> simp [OutsideKept]⟩
  | clkTick => exact ⟨_, exec_clkTick hctx, by simp [OutsideKept]⟩
  | clkNow => exact ⟨_, exec_clkNow hctx, by simp [OutsideKept]⟩
  | clkElapsed => exact ⟨_, exec_clkElapsed hctx, by simp [OutsideKept]⟩
  | clkHasElapsed => exact ⟨_, exec_clkHasElapsed hctx, by simp [OutsideKept]⟩
  | fltSample =>
    cases hr : s.port.smpReady with
    | true => exact ⟨_, exec_fltSample_ready hctx hr, by simp [OutsideKept]⟩
    | false => exact ⟨_, exec_fltSample_idle hctx hr, by simp [OutsideKept]⟩
  | fltReading => exact ⟨_, exec_fltReading hctx, by simp [OutsideKept]⟩
  | fltMagnitude => exact ⟨_, exec_fltMagnitude hctx, by simp [OutsideKept]⟩
  | dbUpdate k => exact State.loopOp_onInput_completes k hctx fun _ => ⟨rfl, rfl, rfl⟩
  | dbGetState k => exact State.loopOp_onInput_completes k hctx fun _ => ⟨rfl, rfl, rfl⟩
  | evPoll k => exact State.loopOp_onInput_completes k hctx fun _ => ⟨rfl, rfl, rfl⟩
  | evConsume k => exact State.loopOp_onInput_completes k hctx fun _ => ⟨rfl, rfl, rfl⟩
  | ctlStep => exact exec_ctlStep_completes hctx

/-! Conforming agents. -/

/-- A conforming agent presents a reset, nothing, or a defined operation in its context (30_encoding.md R90, R97). -/
theorem InPort.legal_iff (p : InPort) :
    p.legal = true ↔
      p.rst = true ∨ p.opValid = false ∨ ∃ i, decode p.op = .ok i ∧ p.ctx = i.tickContext := by
  unfold InPort.legal
  cases decode p.op <;> simp [or_assoc]

theorem InPort.idle_legal : InPort.idle.legal = true := rfl

theorem State.conforming_iff (s : State) :
    s.conforming = true ↔
      s.cfg.valid = true ∧ s.port.legal = true ∧ ∀ p ∈ s.pending, p.legal = true := by
  simp [State.conforming, and_assoc]

/-- The next presentation conforms when all that are left do, for past their end nothing is presented (log 9). -/
theorem State.conforming_advance {s : State} (hs : s.conforming = true) : s.advance.conforming = true := by
  rw [State.conforming_iff] at hs ⊢
  obtain ⟨hvalid, -, hpending⟩ := hs
  refine ⟨hvalid, ?_, fun p hp => hpending p (List.mem_of_mem_tail hp)⟩
  rw [State.advance_port]
  cases hps : s.pending with
  | nil => exact InPort.idle_legal
  | cons p ps => exact hpending p (by simp [hps])

/-- Conforming is said of parameters and presentations alone. -/
theorem State.conforming_of_outsideKept {s t : State} (h : OutsideKept s t) (hs : s.conforming = true) :
    t.conforming = true := by
  obtain ⟨hcfg, hport, hpending⟩ := h
  rwa [State.conforming, hcfg, hport, hpending]

/-- A valid record takes every presentation of a conforming agent: the step goes on to the next presentation from a state
with the same parameters and presentations. -/
theorem step_of_legal {s : State} (hv : s.cfg.valid = true) (hl : s.port.legal = true) :
    ∃ u, step s = .next u.advance ∧ OutsideKept s u := by
  cases hr : s.port.rst with
  | true => exact ⟨_, step_reset hv hr, s.applyReset_outsideKept⟩
  | false =>
    cases ho : s.port.opValid with
    | false => exact ⟨_, step_idle hv hr ho, s.idleOp_outsideKept⟩
    | true =>
      obtain ⟨i, hdecode, hctx⟩ : ∃ i, decode s.port.op = .ok i ∧ s.port.ctx = i.tickContext := by
        simpa [hr, ho] using s.port.legal_iff.1 hl
      obtain ⟨u, hexec, hkept⟩ := exec_completes hctx
      exact ⟨u, by rw [step_presented hv hr ho hdecode, hexec]; rfl, hkept⟩

/-- A conforming state has a next state, which conforms again. -/
theorem step_conforming {s : State} (hs : s.conforming = true) :
    ∃ t, step s = .next t ∧ t.conforming = true := by
  obtain ⟨hvalid, hlegal, -⟩ := s.conforming_iff.1 hs
  obtain ⟨u, hstep, hkept⟩ := step_of_legal hvalid hlegal
  exact ⟨u.advance, hstep, State.conforming_advance (State.conforming_of_outsideKept hkept hs)⟩

/-! Runs. -/

@[simp] theorem core_run_zero (s : State) : Sys2Proof.core.run 0 s = .next s := rfl

theorem core_run_succ {s t : State} (n : Nat) (h : step s = .next t) :
    Sys2Proof.core.run (n + 1) s = Sys2Proof.core.run n t := by
  have hcore : Sys2Proof.core.step s = .next t := h
  simp only [Host.Core.run, hcore]

/-- What gives a next state and is kept by it gives runs of every length, and is kept by them. -/
theorem core_run_of_step {P : State → Prop} (hP : ∀ s, P s → ∃ t, step s = .next t ∧ P t) (n : Nat) :
    ∀ s, P s → ∃ t : State, Sys2Proof.core.run n s = .next t ∧ P t := by
  induction n with
  | zero => exact fun s hs => ⟨s, core_run_zero s, hs⟩
  | succ n ih =>
    intro s hs
    obtain ⟨u, hstep, hu⟩ := hP s hs
    obtain ⟨t, hrun, ht⟩ := ih u hu
    exact ⟨t, by rw [core_run_succ n hstep, hrun], ht⟩

/-- Settles O60, by induction on the length of the run over `step_conforming`. -/
theorem conformingRunsNeverStop : Obligations.ConformingRunsNeverStop :=
  core_run_of_step fun _ => step_conforming

end Machine
end Sys2Proof
end

section
/-!
PROOFS. The state and what a step does to it (10_state.md). The laws come first: two states with the same parameters and
elements, everything an operation and a step can leave in the elements, and each unit's part of the invariant under
its own operations. Every statement about a step is then a look at each thing a step can leave.
-/

namespace Sys2Proof

/-! The checks of a valid parameter record that the invariant and the statements lean on (00_scope.md R9). -/

theorem Cfg.valid_iff (c : Cfg) :
    c.valid = true ↔
      c.ringOk = true ∧ c.inputsOk = true ∧ c.thresholdsOk = true ∧ c.zeroRefOk = true ∧ c.durationsOk = true ∧
        c.widthsOk = true ∧ c.debounceOk = true ∧ c.defaultsOk = true ∧ c.derivedOk = true ∧ c.bootOk = true := by
  simp only [Cfg.valid, Bool.and_eq_true, and_assoc]

section
variable {c : Cfg} (hc : c.valid = true)
include hc

theorem Cfg.n_pos : 0 < c.n := by
  obtain ⟨hring, -⟩ := c.valid_iff.1 hc
  obtain ⟨hn, -⟩ := c.ringOk_iff.1 hring
  rw [hn]
  exact Nat.two_pow_pos _

theorem Cfg.dbThresh_pos : 0 < c.dbThresh := by
  obtain ⟨-, -, -, -, -, -, hdebounce, -⟩ := c.valid_iff.1 hc
  exact (c.debounceOk_iff.1 hdebounce).1

theorem Cfg.bootTick_lt : c.bootTick < 2 ^ c.tickW := by
  obtain ⟨-, -, -, -, -, -, -, -, -, hboot⟩ := c.valid_iff.1 hc
  exact c.bootOk_iff.1 hboot

/-- The default of a present input is its released level (R9(h)). -/
theorem Cfg.dbDefault_eq_activeLow {i : InputIdx} (hi : i.val < c.numInputs) : c.dbDefault[i] = c.activeLow[i] := by
  obtain ⟨-, -, -, -, -, -, -, hdefaults, -⟩ := c.valid_iff.1 hc
  exact c.defaultsOk_iff.1 hdefaults i hi

/-- The clock has at least one bit: two thresholds fit below `MAX` (R9(c)), and a sample fits a timestamp (R9(f)). -/
theorem Cfg.tickW_pos : 0 < c.tickW := by
  obtain ⟨-, -, hthresholds, -, -, hwidths, -, -, hderived, -⟩ := c.valid_iff.1 hc
  obtain ⟨hlow, hhigh⟩ := c.thresholdsOk_iff.1 hthresholds
  obtain ⟨hmax, -, -⟩ := c.derivedOk_iff.1 hderived
  have hsample : c.sampleW ≠ 0 := by
    intro h
    rw [h, pow_zero] at hmax
    omega
  have := c.widthsOk_iff.1 hwidths
  omega

end

namespace Machine

/-! Parameters and elements, all that the statements of 10_state.md speak of. -/

theorem State.elements_eq_iff {t u : State} :
    t.elements = u.elements ↔
      t.clk = u.clk ∧ t.flt = u.flt ∧ t.db = u.db ∧ t.evState = u.evState ∧ t.ctl = u.ctl := by
  simp [State.elements]

/-- The same parameters (10_state.md R41) and the same complete state (R43); ports, hold and record may differ. -/
def SameElements (t u : State) : Prop := t.cfg = u.cfg ∧ t.elements = u.elements

theorem sameElements_iff {t u : State} :
    SameElements t u ↔
      t.cfg = u.cfg ∧ t.clk = u.clk ∧ t.flt = u.flt ∧ t.db = u.db ∧ t.evState = u.evState ∧ t.ctl = u.ctl := by
  rw [SameElements, State.elements_eq_iff]

/-- The invariant is said of parameters and elements alone. -/
theorem SameElements.inv_iff {t u : State} (h : SameElements t u) : t.inv ↔ u.inv := by
  obtain ⟨hcfg, hclk, hflt, hdb, hev, hctl⟩ := sameElements_iff.1 h
  simp only [State.inv, absentInputsInv, hcfg, hclk, hflt, hdb, hev, hctl]

/-! Everything an operation can write. -/

theorem State.beginOp_pinDin (s : State) (i : InputIdx) : s.beginOp.pinDin i = s.pinDin i := by
  simp [State.pinDin]

/-- `VALUE` leaves `SOCKET_REQ`, so the whole unit CTL (44_control.md R201). -/
@[simp] theorem State.emit_value_ctl (s : State) (v : Nat) : (s.emit (.value v)).ctl = s.ctl := rfl

/-- A step's `DWELL_START` is the old one or the snapshot. -/
theorem State.control_dwellStart (s : State) (t m : Nat) (press : Bool) :
    (s.control t m press).ctl.dwellStart = s.ctl.dwellStart ∨ (s.control t m press).ctl.dwellStart = t :=
  fsm_dwellStart s.cfg s.ctl.cstate s.ctl.dwellStart t m

/-- Without a completed press `CURRENT_CONTROL` stays (44_control.md R195). -/
theorem State.control_currentControl_of_no_press (s : State) (t m : Nat) :
    (s.control t m false).ctl.currentControl = s.ctl.currentControl := rfl

/-- What one `CTL.STEP` at the snapshot `t` can make of the timestamps and the modes of CTL: a timestamp stays or becomes
`t`, and either the guard and the modes stay, or the guard has ended and diagnostic mode is not left
(44_control.md R191, R193 to R195). -/
structure Ctl.SteppedTo (k : Ctl) (t : Nat) (k' : Ctl) : Prop where
  dwellStart : k'.dwellStart = k.dwellStart ∨ k'.dwellStart = t
  btnUpTick : k'.btnUpTick = k.btnUpTick ∨ k'.btnUpTick = t
  modes :
    (k'.guardDone = k.guardDone ∧ k'.currentControl = k.currentControl ∧ k'.diagMode = k.diagMode) ∨
    (k'.guardDone = true ∧ (k.diagMode = true → k'.diagMode = true))

/-- `Written s i u`: with the elements of `u`, the operation `i` has made of the elements of `s` one of the things that it
can make of them (10_state.md R42). -/
inductive Written (s : State) : Instr → State → Prop
  | nothing (i : Instr) : Written s i s
  | clk : Written s .clkTick { s with clk := s.clk.advance s.cfg }
  | flt : Written s .fltSample { s with flt := s.flt.ingest s.cfg s.pinRaw }
  | db (k : InputIdx) (hk : k.val < s.cfg.numInputs) :
      Written s (.dbUpdate k) { s with db := s.db.update s.cfg k (s.pinDin k) }
  | evPoll (k : InputIdx) (hk : k.val < s.cfg.numInputs) :
      Written s (.evPoll k) { s with evState := s.evState.set k (s.evState[k].poll (s.level k)) }
  | evConsume (k : InputIdx) : Written s (.evConsume k) (s.consumeEffect k)
  | ctl (k : Ctl) (hk : s.ctl.SteppedTo s.clk.tick k) : Written s .ctlStep { s with ctl := k }
  | ctlConsuming (k : Ctl) (hk : s.ctl.SteppedTo s.clk.tick k) :
      Written s .ctlStep { s.consumeEffect 0 with ctl := k }

theorem Written.cfg_eq {i : Instr} {s u : State} (h : Written s i u) : u.cfg = s.cfg := by cases h <;> rfl

/-- Only in its own context does an operation have a next state (30_encoding.md R97). -/
theorem tickContext_of_exec {i : Instr} {s t : State} (h : exec i s = .next t) : s.port.ctx = i.tickContext := by
  cases i with
  | clkTick => simp only [exec] at h; exact (State.tickOp_eq_next.1 h).1
  | _ => simp only [exec] at h; exact (State.loopOp_eq_next.1 h).1

/-- An operation with a next state touches neither parameters nor presentations (10_state.md R41). -/
theorem exec_outsideKept {i : Instr} {s t : State} (h : exec i s = .next t) : OutsideKept s t := by
  obtain ⟨u, hexec, hkept⟩ := exec_completes (tickContext_of_exec h)
  obtain rfl : u = t := Host.Outcome.next.inj (hexec.symm.trans h)
  exact hkept

/-- All that a format I operation can do: its meaning on a present input, or nothing (30_encoding.md R96). -/
theorem State.loopOp_onInput_cases {s t : State} {i : InputIdx} {body : State → State}
    (h : s.loopOp (fun u => u.onInput i body) = .next t) :
    (i.val < s.cfg.numInputs ∧ t = body s.beginOp) ∨ (s.cfg.numInputs ≤ i.val ∧ t = s.beginOp.drive 0) := by
  obtain ⟨-, rfl⟩ := State.loopOp_eq_next.1 h
  rcases Nat.lt_or_ge i.val s.cfg.numInputs with hi | hi
  · exact .inl ⟨hi, State.onInput_present body (by simpa using hi)⟩
  · exact .inr ⟨hi, State.onInput_absent body (by simpa using hi)⟩

/-- What `CTL.STEP` writes, by its four outcomes (44_control.md R202). -/
theorem exec_ctlStep_written {s t : State} (h : exec .ctlStep s = .next t) :
    ∃ u, Written s .ctlStep u ∧ t.elements = u.elements := by
  obtain ⟨t', hexec, hcases⟩ := exec_ctlStep_cases (tickContext_of_exec h)
  obtain rfl : t' = t := Host.Outcome.next.inj (hexec.symm.trans h)
  obtain ⟨-, ht⟩ | ⟨-, -, ht⟩ | ⟨-, -, -, ht⟩ | ⟨-, -, -, ht⟩ := hcases
  case inl =>
    exact ⟨s, .nothing _, by simp [ht, State.elements]⟩
  case inr.inl =>
    refine ⟨_, .ctlConsuming t'.ctl ⟨?_, ?_, .inl ?_⟩, by simp [ht, State.elements, State.guardedStep]⟩
    · rw [ht, State.drive_ctl]
      exact (State.control_dwellStart _ _ _ _).imp_left fun hd => hd.trans (by simp)
    · exact .inr (by simp [ht, State.guardedStep])
    · simp [ht, State.guardedStep, State.control_currentControl_of_no_press]
  case inr.inr.inl =>
    exact ⟨_, .ctl t'.ctl ⟨.inl (by simp [ht]), .inl (by simp [ht]), .inr (by simp [ht])⟩,
      by simp [ht, State.elements]⟩
  case inr.inr.inr =>
    refine ⟨_, .ctlConsuming t'.ctl ⟨?_, ?_, .inr ?_⟩, ?_⟩
    · rw [ht, State.drive_ctl]
      refine (State.control_dwellStart _ _ _ _).imp_left fun hd => hd.trans ?_
      split <;> simp
    · rw [ht]; split <;> simp
    · rw [ht]; split <;> simp
    · rw [ht]; split <;> simp [State.elements]

/-- An operation that only answers writes no element. -/
theorem written_of_drive {i : Instr} {s t : State} {v : Nat} (h : exec i s = .next t)
    (hdrive : exec i s = .next (s.beginOp.drive v)) : ∃ u, Written s i u ∧ t.elements = u.elements := by
  obtain rfl : s.beginOp.drive v = t := Host.Outcome.next.inj (hdrive.symm.trans h)
  exact ⟨s, .nothing i, by simp [State.elements]⟩

/-- Everything that an operation with a next state can leave in the elements. -/
theorem exec_written {i : Instr} {s t : State} (h : exec i s = .next t) :
    ∃ u, Written s i u ∧ t.elements = u.elements := by
  have hctx := tickContext_of_exec h
  cases i with
  | sysWait =>
    rw [exec_sysWait hctx] at h
    obtain rfl := Host.Outcome.next.inj h
    exact ⟨s, .nothing _, by split <;> simp [State.elements]⟩
  | clkTick =>
    rw [exec_clkTick hctx] at h
    obtain rfl := Host.Outcome.next.inj h
    exact ⟨_, .clk, by simp [State.elements]⟩
  | clkNow => exact written_of_drive h (exec_clkNow hctx)
  | clkElapsed => exact written_of_drive h (exec_clkElapsed hctx)
  | clkHasElapsed => exact written_of_drive h (exec_clkHasElapsed hctx)
  | fltSample =>
    cases hr : s.port.smpReady with
    | true =>
      rw [exec_fltSample_ready hctx hr] at h
      obtain rfl := Host.Outcome.next.inj h
      exact ⟨_, .flt, by simp [State.elements]⟩
    | false => exact written_of_drive h (exec_fltSample_idle hctx hr)
  | fltReading => exact written_of_drive h (exec_fltReading hctx)
  | fltMagnitude => exact written_of_drive h (exec_fltMagnitude hctx)
  | dbUpdate k =>
    obtain ⟨hk, rfl⟩ | ⟨-, rfl⟩ := State.loopOp_onInput_cases h
    · exact ⟨_, .db k hk, by simp [State.elements, State.beginOp_pinDin]⟩
    · exact ⟨s, .nothing _, by simp [State.elements]⟩
  | dbGetState k =>
    obtain ⟨-, rfl⟩ | ⟨-, rfl⟩ := State.loopOp_onInput_cases h <;>
      exact ⟨s, .nothing _, by simp [State.elements]⟩
  | evPoll k =>
    obtain ⟨hk, rfl⟩ | ⟨-, rfl⟩ := State.loopOp_onInput_cases h
    · exact ⟨_, .evPoll k hk, by simp [State.elements, State.beginOp_level]⟩
    · exact ⟨s, .nothing _, by simp [State.elements]⟩
  | evConsume k =>
    obtain ⟨-, rfl⟩ | ⟨-, rfl⟩ := State.loopOp_onInput_cases h
    · exact ⟨_, .evConsume k, by simp [State.elements]⟩
    · exact ⟨s, .nothing _, by simp [State.elements]⟩
  | ctlStep => exact exec_ctlStep_written h

/-- Everything that a step with a next state can leave in parameters and elements: the reset state, what was there, or what
the presented operation writes. -/
theorem step_written {s t : State} (h : step s = .next t) :
    ∃ u, SameElements t u ∧
      ((s.port.rst = true ∧ u = State.resetOf s.cfg) ∨ (s.port.rst = false ∧ (u = s ∨ ∃ i, Written s i u))) := by
  obtain ⟨-, ⟨hr, rfl⟩ | ⟨hr, -, rfl⟩ | ⟨hr, -, i, v, -, hexec, rfl⟩⟩ := step_eq_next.1 h
  · exact ⟨State.resetOf s.cfg, ⟨rfl, rfl⟩, .inl ⟨hr, rfl⟩⟩
  · exact ⟨s, sameElements_iff.2 (by simp), .inr ⟨hr, .inl rfl⟩⟩
  · obtain ⟨u, hw, helements⟩ := exec_written hexec
    obtain ⟨hcfg, -, -⟩ := exec_outsideKept hexec
    exact ⟨u, ⟨hcfg.trans hw.cfg_eq.symm, helements⟩, .inr ⟨hr, .inr ⟨i, hw⟩⟩⟩

theorem cfg_valid_of_step {s t : State} (h : step s = .next t) : s.cfg.valid = true := (step_eq_next.1 h).1

/-- No step, reset included, writes a parameter (10_state.md R41). -/
theorem step_cfg {s t : State} (h : step s = .next t) : t.cfg = s.cfg := by
  obtain ⟨u, ⟨hcfg, -⟩, ⟨-, rfl⟩ | ⟨-, rfl | ⟨i, hw⟩⟩⟩ := step_written h
  · exact hcfg
  · exact hcfg
  · exact hcfg.trans hw.cfg_eq

/-! The invariant at reset. -/

theorem Flt.inv_initial {c : Cfg} (hn : 0 < c.n) : (Flt.initial c).inv c :=
  ⟨Memory.wf_nil, by simp [Flt.initial], hn, fun _ => ⟨rfl, fun _ _ => rfl⟩, by simp [Flt.initial]⟩

theorem Db.inv_initial {c : Cfg} (hthresh : 0 < c.dbThresh) : Db.initial.inv c := by
  simpa [Db.inv, Db.initial] using hthresh

/-- The reset state of every valid record meets the invariant (10_state.md R43, R53). -/
theorem State.inv_resetOf {c : Cfg} (hc : c.valid = true) : (State.resetOf c).inv := by
  refine ⟨hc, Cfg.bootTick_lt hc, Flt.inv_initial (Cfg.n_pos hc), Db.inv_initial (Cfg.dbThresh_pos hc), ?_,
    ⟨Nat.two_pow_pos _, Cfg.bootTick_lt hc, fun _ => ⟨rfl, rfl⟩⟩, ?_⟩
  · simp [evInv, State.resetOf]
  · simp [absentInputsInv, State.resetOf, Db.initial]

/-! The invariant of each unit under what is written to it. -/

/-- A consumed sample (41_filter.md R130): while the first lap goes on, the cursor moves past the one slot written and the
slots from it on stay as reset left them; with `FULL` the mean is taken anew. -/
theorem Flt.inv_ingest {f : Flt} {c : Cfg} {raw : Nat} (hn : 0 < c.n) (hraw : raw < 2 ^ c.sampleW) (hf : f.inv c) :
    (f.ingest c raw).inv c := by
  obtain ⟨hwf, hcells, hcursor, hpartial, -⟩ := hf
  refine ⟨Memory.write_wf hwf _ _, ?_, ?_, ?_, ?_⟩
  · intro cell hcell
    rcases Memory.mem_write hcell with rfl | hcell
    · exact ⟨hcursor, hraw⟩
    · exact hcells cell hcell
  · simp only [Flt.ingest]
    split <;> omega
  · intro hfull
    have hnext : fullNext c.n f.cursor f.full = false := hfull
    obtain ⟨hold, hlast⟩ : f.full = false ∧ f.cursor ≠ c.n - 1 := by simpa [fullNext] using hnext
    obtain ⟨hmean, hslots⟩ := hpartial hold
    refine ⟨by simpa [Flt.ingest, hnext] using hmean, fun k hk => ?_⟩
    have hk : f.cursor + 1 ≤ k := by simpa [Flt.ingest, hlast] using hk
    exact (Memory.read_write hwf f.cursor raw k).trans (by rw [if_neg (by omega), hslots k (by omega)])
  · intro hfull
    have hnext : fullNext c.n f.cursor f.full = true := hfull
    simp [Flt.ingest, hnext]

/-- A debounce step touches its own input only. -/
theorem Db.update_of_ne {d : Db} {c : Cfg} {i j : InputIdx} {raw : Bool} (hj : j ≠ i) :
    (d.update c i raw).lastRaw[j] = d.lastRaw[j] ∧ (d.update c i raw).validated[j] = d.validated[j] ∧
      (d.update c i raw).initialized[j] = d.initialized[j] ∧ (d.update c i raw).cnt[j] = d.cnt[j] := by
  obtain ⟨-, h⟩ | ⟨-, -, h⟩ | ⟨-, -, h⟩ := d.update_cases c i raw <;>
    simp only [h, vector_get_set, if_neg hj, and_self]

/-- A debounce step never clears `INITIALIZED` (10_state.md R40). -/
theorem Db.initialized_update {d : Db} {c : Cfg} {i j : InputIdx} {raw : Bool} (hj : d.initialized[j] = true) :
    (d.update c i raw).initialized[j] = true := by
  obtain ⟨-, h⟩ | ⟨-, -, h⟩ | ⟨-, -, h⟩ := d.update_cases c i raw
  · rw [h]; exact hj
  · rw [h]; exact hj
  · simp only [h, vector_get_set, hj, ite_self]

/-- A debounce step (42_debounce.md R150): the count restarts, grows below `DB_THRESH`, or stops there and commits. -/
theorem Db.inv_update {d : Db} {c : Cfg} {i : InputIdx} {raw : Bool} (hthresh : 0 < c.dbThresh) (hd : d.inv c) :
    (d.update c i raw).inv c := by
  intro j
  by_cases hj : j = i
  · subst hj
    obtain ⟨hcnt, huninit⟩ := hd j
    obtain ⟨-, h⟩ | ⟨-, hlt, h⟩ | ⟨-, -, h⟩ := d.update_cases c j raw
    · simpa [h] using fun hi => ⟨(huninit hi).1, hthresh⟩
    · simpa [h] using ⟨hlt.le, fun hi => ⟨(huninit hi).1, hlt⟩⟩
    · simp [h]
  · obtain ⟨-, hvalidated, hinit, hcnt⟩ := Db.update_of_ne (d := d) (c := c) (raw := raw) hj
    rw [hvalidated, hinit, hcnt]
    exact hd j

theorem Ctl.inv_steppedTo {k k' : Ctl} {c : Cfg} {t : Nat} (ht : t < 2 ^ c.tickW) (hk : k.inv c)
    (h : k.SteppedTo t k') : k'.inv c := by
  obtain ⟨hdwell, hbtn, hguard⟩ := hk
  refine ⟨?_, ?_, fun hg => ?_⟩
  · rcases h.dwellStart with e | e <;> rwa [e]
  · rcases h.btnUpTick with e | e <;> rwa [e]
  · obtain ⟨hgd, hcc, hdm⟩ | ⟨hgd, -⟩ := h.modes
    · rw [hcc, hdm]
      exact hguard (hgd ▸ hg)
    · simp [hgd] at hg

/-! The invariant of the machine under what is written to one unit. -/

theorem State.inv_setClk {s : State} {k : Clk} (hs : s.inv) (hk : k.inv s.cfg) : ({ s with clk := k } : State).inv := by
  obtain ⟨hvalid, -, hflt, hdb, hev, hctl, habsent⟩ := hs
  exact ⟨hvalid, hk, hflt, hdb, hev, hctl, habsent⟩

theorem State.inv_setFlt {s : State} {f : Flt} (hs : s.inv) (hf : f.inv s.cfg) : ({ s with flt := f } : State).inv := by
  obtain ⟨hvalid, hclk, -, hdb, hev, hctl, habsent⟩ := hs
  exact ⟨hvalid, hclk, hf, hdb, hev, hctl, habsent⟩

theorem State.inv_setCtl {s : State} {k : Ctl} (hs : s.inv) (hk : k.inv s.cfg) : ({ s with ctl := k } : State).inv := by
  obtain ⟨hvalid, hclk, hflt, hdb, hev, -, habsent⟩ := hs
  exact ⟨hvalid, hclk, hflt, hdb, hev, hk, habsent⟩

/-- Event states may change freely but for the inputs that are not yet initialized, the absent ones among them: those stay
in `EV_IDLE`. -/
theorem State.inv_setEvState {s : State} {e : Vector EvState 4} (hs : s.inv)
    (he : ∀ j : InputIdx, s.db.initialized[j] = false → s.evState[j] = .idle → e[j] = .idle) :
    ({ s with evState := e } : State).inv := by
  obtain ⟨hvalid, hclk, hflt, hdb, hev, hctl, habsent⟩ := hs
  refine ⟨hvalid, hclk, hflt, hdb, fun j hj => he j hj (hev j hj), hctl, fun j hj => ?_⟩
  obtain ⟨hraw, hvalidated, hinit, hcnt, hidle⟩ := habsent j hj
  exact ⟨hraw, hvalidated, hinit, hcnt, he j hinit hidle⟩

/-- Consuming leaves an idle input idle (43_input_event.md R174). -/
theorem State.inv_consumeEffect {s : State} (hs : s.inv) (i : InputIdx) : (s.consumeEffect i).inv := by
  refine State.inv_setEvState hs fun j _ hidle => ?_
  rw [vector_get_set]
  split
  · next hj => rw [← hj, hidle]; rfl
  · exact hidle

/-- The level of a present input that is not yet initialized is 0 (43_input_event.md R172 corner case 3). -/
theorem State.level_of_uninitialized {s : State} {i : InputIdx} (hvalid : s.cfg.valid = true)
    (hi : i.val < s.cfg.numInputs) (hinit : s.db.initialized[i] = false) : s.level i = false := by
  simp [State.level, Db.getState, hinit, Cfg.dbDefault_eq_activeLow hvalid hi]

theorem State.inv_poll {s : State} {i : InputIdx} (hs : s.inv) (hi : i.val < s.cfg.numInputs) :
    ({ s with evState := s.evState.set i (s.evState[i].poll (s.level i)) } : State).inv := by
  have ⟨hvalid, _⟩ := hs
  refine State.inv_setEvState hs fun j hinit hidle => ?_
  rw [vector_get_set]
  split
  · next hj =>
    subst hj
    rw [hidle, State.level_of_uninitialized hvalid hi hinit]
    rfl
  · exact hidle

/-- A debounce step of a present input: an input not initialized after it was not before it, and no absent one is touched. -/
theorem State.inv_dbUpdate {s : State} {i : InputIdx} {raw : Bool} (hs : s.inv) (hi : i.val < s.cfg.numInputs) :
    ({ s with db := s.db.update s.cfg i raw } : State).inv := by
  obtain ⟨hvalid, hclk, hflt, hdb, hev, hctl, habsent⟩ := hs
  refine ⟨hvalid, hclk, hflt, Db.inv_update (Cfg.dbThresh_pos hvalid) hdb, fun j hj => hev j ?_, hctl, fun j hj => ?_⟩
  · by_contra hinit
    exact Bool.false_ne_true (hj.symm.trans (Db.initialized_update (Bool.eq_true_of_not_eq_false hinit)))
  · have hj : s.cfg.numInputs ≤ j.val := hj
    have hne : j ≠ i := fun h => by subst h; omega
    obtain ⟨hraw, hvalidated, hinit, hcnt⟩ := Db.update_of_ne (d := s.db) (c := s.cfg) (raw := raw) hne
    simpa only [hraw, hvalidated, hinit, hcnt] using habsent j hj

theorem State.pinRaw_lt (s : State) : s.pinRaw < 2 ^ s.cfg.sampleW := Nat.mod_lt _ (Nat.two_pow_pos _)

/-- Whatever an operation writes, the invariant is kept. -/
theorem Written.inv {i : Instr} {s u : State} (hs : s.inv) (h : Written s i u) : u.inv := by
  have ⟨hvalid, hclk, hflt, _, _, hctl, _⟩ := hs
  cases h with
  | nothing => exact hs
  | clk => exact State.inv_setClk hs (addW_lt _ _ _)
  | flt => exact State.inv_setFlt hs (Flt.inv_ingest (Cfg.n_pos hvalid) s.pinRaw_lt hflt)
  | db k hk => exact State.inv_dbUpdate hs hk
  | evPoll k hk => exact State.inv_poll hs hk
  | evConsume k => exact State.inv_consumeEffect hs k
  | ctl k hk => exact State.inv_setCtl hs (Ctl.inv_steppedTo hclk hctl hk)
  | ctlConsuming k hk => exact State.inv_setCtl (State.inv_consumeEffect hs 0) (Ctl.inv_steppedTo hclk hctl hk)

/-- Settles O51: a step leaves the reset state, what was there, or what an operation writes, and each meets the invariant. -/
theorem invariantIsKept : Obligations.InvariantIsKept := by
  intro s t hs hstep
  obtain ⟨u, hsame, hcases⟩ := step_written hstep
  rw [hsame.inv_iff]
  obtain ⟨-, rfl⟩ | ⟨-, rfl | ⟨i, hw⟩⟩ := hcases
  · exact State.inv_resetOf (cfg_valid_of_step hstep)
  · exact hs
  · exact hw.inv hs

/-- Settles O50: the reference record is one that runs, so both clauses are `State.inv_resetOf`. -/
theorem invariantHoldsAtReset : Obligations.InvariantHoldsAtReset :=
  ⟨State.inv_resetOf (by decide +kernel), fun _ => State.inv_resetOf⟩

/-! The sticky flags (10_state.md R40). -/

/-- Each of `FULL`, `DIAG_MODE`, `GUARD_DONE` and `INITIALIZED[i]` that is 1 in `s` is 1 in `t`. -/
def StickyKept (s t : State) : Prop :=
  (s.flt.full = true → t.flt.full = true) ∧ (s.ctl.diagMode = true → t.ctl.diagMode = true) ∧
  (s.ctl.guardDone = true → t.ctl.guardDone = true) ∧
  ∀ i : InputIdx, s.db.initialized[i] = true → t.db.initialized[i] = true

theorem StickyKept.refl (s : State) : StickyKept s s := ⟨id, id, id, fun _ => id⟩

theorem SameElements.stickyKept_iff {s t u : State} (h : SameElements t u) : StickyKept s t ↔ StickyKept s u := by
  obtain ⟨-, -, hflt, hdb, -, hctl⟩ := sameElements_iff.1 h
  simp only [StickyKept, hflt, hdb, hctl]

/-- A consumed sample never clears `FULL`. -/
theorem Flt.full_ingest {f : Flt} {c : Cfg} {raw : Nat} (hf : f.full = true) : (f.ingest c raw).full = true := by
  simp [Flt.ingest, fullNext, hf]

/-- No `CTL.STEP` clears `DIAG_MODE` or `GUARD_DONE`. -/
theorem Ctl.SteppedTo.sticky {k k' : Ctl} {t : Nat} (h : k.SteppedTo t k') :
    (k.diagMode = true → k'.diagMode = true) ∧ (k.guardDone = true → k'.guardDone = true) := by
  obtain ⟨hgd, -, hdm⟩ | ⟨hgd, hdm⟩ := h.modes
  · exact ⟨hdm.trans, hgd.trans⟩
  · exact ⟨hdm, fun _ => hgd⟩

theorem Written.stickyKept {i : Instr} {s u : State} (h : Written s i u) : StickyKept s u := by
  cases h with
  | nothing => exact .refl s
  | clk => exact .refl s
  | flt => exact ⟨Flt.full_ingest, id, id, fun _ => id⟩
  | db => exact ⟨id, id, id, fun _ => Db.initialized_update⟩
  | evPoll => exact .refl s
  | evConsume => exact .refl s
  | ctl _ hk => exact ⟨id, hk.sticky.1, hk.sticky.2, fun _ => id⟩
  | ctlConsuming _ hk => exact ⟨id, hk.sticky.1, hk.sticky.2, fun _ => id⟩

/-- Settles O52: out of reset a step leaves what was there, or what an operation writes. -/
theorem stickyFlagsStaySet : Obligations.StickyFlagsStaySet := by
  intro s t hstep hrst
  obtain ⟨u, hsame, ⟨hr, -⟩ | ⟨-, rfl | ⟨i, hw⟩⟩⟩ := step_written hstep
  · simp [hrst] at hr
  · exact hsame.stickyKept_iff.2 (.refl u)
  · exact hsame.stickyKept_iff.2 hw.stickyKept

/-! The owners (10_state.md R42). -/

/-- Consuming changes the event state of its own input only, and that only from `EV_RELEASED` to `EV_IDLE`. -/
theorem State.consumeEffect_changes {s : State} {i j : InputIdx}
    (h : (s.consumeEffect i).evState[j] ≠ s.evState[j]) :
    j = i ∧ s.evState[j] = .released ∧ (s.consumeEffect i).evState[j] = .idle := by
  rw [State.consumeEffect_evState, vector_get_set, EvState.afterConsume_eq] at h ⊢
  by_cases hj : j = i
  · subst hj
    by_cases hreleased : s.evState[j] = .released
    · simp only [hreleased, if_true, and_self]
    · simp only [hreleased, if_true, if_false, ne_eq, not_true_eq_false] at h
  · simp only [hj, if_false, ne_eq, not_true_eq_false] at h

/-- Settles O53: what each operation writes is its own unit's, but for the event that `CTL.STEP` takes from input 0. -/
theorem eachElementHasOneOwner : Obligations.EachElementHasOneOwner := by
  intro i s t hexec
  obtain ⟨u, hw, helements⟩ := exec_written hexec
  obtain ⟨hclk, hflt, hdb, hev, hctl⟩ := State.elements_eq_iff.1 helements
  rw [hclk, hflt, hdb, hev, hctl]
  cases hw with
  | nothing => simp
  | clk => simp
  | flt => simp
  | db k => simp
  | evPoll k =>
    refine ⟨fun _ => rfl, fun _ => rfl, fun _ => rfl, fun j hj => .inl ?_, fun _ => rfl⟩
    by_contra hne
    exact hj (by rw [vector_get_set, if_neg fun h => hne (by rw [h])])
  | evConsume k =>
    exact ⟨fun _ => rfl, fun _ => rfl, fun _ => rfl,
      fun j hj => .inr (.inl (by rw [(State.consumeEffect_changes hj).1])), fun _ => rfl⟩
  | ctl k => simp
  | ctlConsuming k =>
    exact ⟨fun _ => rfl, fun _ => rfl, fun _ => rfl,
      fun j hj => .inr (.inr ⟨rfl, State.consumeEffect_changes hj⟩), fun h => absurd rfl h⟩

/-! Runs, parameters and the tick pin. -/

/-- A run that has a next state after `n + 1` steps has one after the first. -/
theorem core_run_succ_eq_next {n : Nat} {s t : State} (h : Sys2Proof.core.run (n + 1) s = .next t) :
    ∃ u, step s = .next u ∧ Sys2Proof.core.run n u = .next t := by
  cases hstep : step s with
  | next u => exact ⟨u, rfl, by rw [← h, core_run_succ n hstep]⟩
  | fault f => cases f
  | refused r =>
    have hcore : Sys2Proof.core.step s = .refused r := hstep
    simp [Host.Core.run, hcore] at h

/-- Settles O54, by induction on the length of the run. -/
theorem parametersAreNeverWritten : Obligations.ParametersAreNeverWritten := by
  intro n
  induction n with
  | zero =>
    intro s t h
    obtain rfl : s = t := Host.Outcome.next.inj h
    rfl
  | succ n ih =>
    intro s t h
    obtain ⟨u, hstep, hrun⟩ := core_run_succ_eq_next h
    exact (ih u t hrun).trans (step_cfg hstep)

/-- `TICK_PIN` is bit 0 of `TICK` (10_state.md R23). -/
def Clk.PinIsLowBit (k : Clk) : Prop := k.tickPin = decide (k.tick % 2 = 1)

theorem Clk.pinIsLowBit_initial {c : Cfg} (heven : c.bootTick % 2 = 0) : (Clk.initial c).PinIsLowBit := by
  simp [Clk.PinIsLowBit, Clk.initial, heven]

/-- A tick complements both: the wrap at `2^TICK_W` keeps parity, for that modulus is even. -/
theorem Clk.pinIsLowBit_advance {k : Clk} {c : Cfg} (hw : 0 < c.tickW) (hk : k.PinIsLowBit) :
    (k.advance c).PinIsLowBit := by
  have hparity : addW c.tickW k.tick 1 % 2 = (k.tick + 1) % 2 :=
    Nat.mod_mod_of_dvd _ (dvd_pow_self 2 hw.ne')
  unfold Clk.PinIsLowBit at hk ⊢
  simp only [Clk.advance, tickPinNext, hparity, hk]
  rcases Nat.mod_two_eq_zero_or_one k.tick with h | h <;> simp [Nat.add_mod, h]

theorem Written.pinIsLowBit {i : Instr} {s u : State} (hw : 0 < s.cfg.tickW) (hs : s.clk.PinIsLowBit)
    (h : Written s i u) : u.clk.PinIsLowBit := by
  cases h with
  | clk => exact Clk.pinIsLowBit_advance hw hs
  | _ => exact hs

/-- Settles O55: at reset from the parity of `BOOT_TICK`, and then a tick is all that writes the clock. -/
theorem tickPinIsTheLowBitOfTick : Obligations.TickPinIsTheLowBitOfTick := by
  intro c hvalid heven
  refine ⟨Clk.pinIsLowBit_initial heven, fun s t hcfg hstep hpin => ?_⟩
  subst hcfg
  obtain ⟨u, hsame, hcases⟩ := step_written hstep
  obtain ⟨-, hclk, -⟩ := sameElements_iff.1 hsame
  rw [hclk]
  obtain ⟨-, rfl⟩ | ⟨-, rfl | ⟨i, hw⟩⟩ := hcases
  · exact Clk.pinIsLowBit_initial heven
  · exact hpin
  · exact hw.pinIsLowBit (Cfg.tickW_pos hvalid) hpin

/-- Settles O6: a defined operation at the port is executed, and its answer goes out through `advanceOutcome`. -/
theorem stepRunsThePresentedOperation : Obligations.StepRunsThePresentedOperation := by
  intro s i hvalid hrst hop hdecode
  rw [step_presented hvalid hrst hop hdecode]
  exact ⟨fun u hexec => by rw [hexec]; rfl, fun r hexec => by rw [hexec]; rfl⟩

end Machine
end Sys2Proof
end

section
/-!
PROOFS. The encoding (30_encoding.md). The laws come first: an operation word is its three fields (R80), each operation has
one word and is what that word decodes to (R86), and a row of the opcode table passes the words of its operation and no other
(R87). Then what the context decides (R97), an absent input (R96), and what fits the output ports (R83).
-/

namespace Sys2Proof

/-! The fields of a word (30_encoding.md R80). -/

theorem opUnit_toNat (op : OpWord) : (opUnit op).toNat = op.toNat / 16 := by
  simp only [opUnit, BitVec.extractLsb'_toNat, Nat.shiftRight_eq_div_pow]
  omega

theorem opFn_toNat (op : OpWord) : (opFn op).toNat = op.toNat / 4 % 4 := by
  simp [opFn, Nat.shiftRight_eq_div_pow]

theorem opSub_toNat (op : OpWord) : (opSub op).toNat = op.toNat % 4 := by
  simp [opSub]

theorem opIndex_val (op : OpWord) : (opIndex op).val = op.toNat % 4 := opSub_toNat op

theorem opWord_toNat (unit : BitVec 4) (fn sub : BitVec 2) :
    (opWord unit fn sub).toNat = unit.toNat * 16 + fn.toNat * 4 + sub.toNat := by
  have happend : (opWord unit fn sub).toNat = (unit.toNat <<< 2 ||| fn.toNat) <<< 2 ||| sub.toNat := rfl
  rw [happend, ← Nat.shiftLeft_add_eq_or_of_lt fn.isLt, ← Nat.shiftLeft_add_eq_or_of_lt sub.isLt, Nat.shiftLeft_eq,
    Nat.shiftLeft_eq]
  omega

@[simp] theorem opUnit_opWord (unit : BitVec 4) (fn sub : BitVec 2) : opUnit (opWord unit fn sub) = unit := by
  apply BitVec.eq_of_toNat_eq
  rw [opUnit_toNat, opWord_toNat]
  omega

@[simp] theorem opFn_opWord (unit : BitVec 4) (fn sub : BitVec 2) : opFn (opWord unit fn sub) = fn := by
  apply BitVec.eq_of_toNat_eq
  rw [opFn_toNat, opWord_toNat]
  omega

@[simp] theorem opSub_opWord (unit : BitVec 4) (fn sub : BitVec 2) : opSub (opWord unit fn sub) = sub := by
  apply BitVec.eq_of_toNat_eq
  rw [opSub_toNat, opWord_toNat]
  omega

theorem opWord_fields (op : OpWord) : opWord (opUnit op) (opFn op) (opSub op) = op := by
  apply BitVec.eq_of_toNat_eq
  rw [opWord_toNat, opUnit_toNat, opFn_toNat, opSub_toNat]
  omega

theorem opWord_and (unit unit' : BitVec 4) (fn sub fn' sub' : BitVec 2) :
    opWord unit fn sub &&& opWord unit' fn' sub' = opWord (unit &&& unit') (fn &&& fn') (sub &&& sub') := by
  unfold opWord
  rw [← BitVec.and_append, ← BitVec.and_append]

/-! The words of the operations (30_encoding.md R86). -/

/-- The word column of R86 as a number. -/
def Instr.code : Instr → Nat
  | .sysWait => 0x01
  | .clkTick => 0x10
  | .clkNow => 0x11
  | .clkElapsed => 0x12
  | .clkHasElapsed => 0x13
  | .fltSample => 0x20
  | .fltReading => 0x21
  | .fltMagnitude => 0x22
  | .dbUpdate i => 0x30 + i.val
  | .dbGetState i => 0x34 + i.val
  | .evPoll i => 0x40 + i.val
  | .evConsume i => 0x44 + i.val
  | .ctlStep => 0x50

theorem encode_toNat (i : Instr) : (encode i).toNat = i.code := by
  cases i <;> simp [encode, opWord_toNat, Instr.code]

theorem encode_eq_iff_code {i : Instr} {op : OpWord} : encode i = op ↔ i.code = op.toNat := by
  rw [← encode_toNat, BitVec.toNat_inj]

theorem decode_encode (i : Instr) : decode (encode i) = .ok i := by
  cases i with
  | dbUpdate k => simp [decode, encode, opIndex]
  | dbGetState k => simp [decode, encode, opIndex]
  | evPoll k => simp [decode, encode, opIndex]
  | evConsume k => simp [decode, encode, opIndex]
  | _ => rfl

theorem encode_of_decode {op : OpWord} {i : Instr} (h : decode op = .ok i) : encode i = op := by
  unfold decode at h
  simp only [opUnit_toNat, opFn_toNat, opSub_toNat] at h
  rw [encode_eq_iff_code]
  split at h
  case h_14 => cases h
  all_goals
    cases h
    simp only [Instr.code, opIndex_val]
    omega

/-- Settles O1: one direction goes through the branches of the decoder, the other through the operations. -/
theorem decodeAndEncodeAgree : Obligations.DecodeAndEncodeAgree :=
  fun _ i => ⟨encode_of_decode, fun h => h ▸ decode_encode i⟩

/-- Settles O2: each word is the encoder's for its operation. -/
theorem tableWordsDecode : Obligations.TableWordsDecode := by
  unfold Obligations.TableWordsDecode
  simp only [decodeAndEncodeAgree _ _]
  decide

/-! The rows of the opcode table (30_encoding.md R87). -/

/-- A mask of all ones leaves its row's pattern alone. -/
theorem OpcodeRow.eq_of_hits_full {name : String} {pattern op : OpWord}
    (h : (⟨name, pattern, 0xFF⟩ : OpcodeRow).hits op = true) : pattern = op := by
  have hand : op &&& BitVec.allOnes 8 = pattern := eq_of_beq h
  rw [← hand, BitVec.and_allOnes]

/-- A mask without `OP[1:0]` leaves the words that differ from its row's pattern in that field only (R82). -/
theorem OpcodeRow.eq_of_hits_indexed {name : String} {unit : BitVec 4} {fn : BitVec 2} {op : OpWord}
    (h : (⟨name, opWord unit fn 0, 0xFC⟩ : OpcodeRow).hits op = true) : opWord unit fn (opSub op) = op := by
  have hand : op &&& opWord (BitVec.allOnes 4) (BitVec.allOnes 2) 0 = opWord unit fn 0 := eq_of_beq h
  rw [← opWord_fields op, opWord_and, BitVec.and_allOnes, BitVec.and_allOnes] at hand
  have hunit : opUnit op = unit := by simpa using congrArg opUnit hand
  have hfn : opFn op = fn := by simpa using congrArg opFn hand
  rw [← hunit, ← hfn, opWord_fields]

/-- A word that a row passes is one of the row's operation. -/
theorem encode_of_hits {op : OpWord} :
    ∀ row ∈ opcodeTable, row.hits op = true → ∃ i, encode i = op ∧ i.mnemonic = row.mnemonic := by
  simp only [opcodeTable, List.forall_mem_cons]
  exact
    ⟨fun h => ⟨.sysWait, OpcodeRow.eq_of_hits_full h, rfl⟩,
     fun h => ⟨.clkTick, OpcodeRow.eq_of_hits_full h, rfl⟩,
     fun h => ⟨.clkNow, OpcodeRow.eq_of_hits_full h, rfl⟩,
     fun h => ⟨.clkElapsed, OpcodeRow.eq_of_hits_full h, rfl⟩,
     fun h => ⟨.clkHasElapsed, OpcodeRow.eq_of_hits_full h, rfl⟩,
     fun h => ⟨.fltSample, OpcodeRow.eq_of_hits_full h, rfl⟩,
     fun h => ⟨.fltReading, OpcodeRow.eq_of_hits_full h, rfl⟩,
     fun h => ⟨.fltMagnitude, OpcodeRow.eq_of_hits_full h, rfl⟩,
     fun h => ⟨.dbUpdate (opIndex op), OpcodeRow.eq_of_hits_indexed (unit := 3) (fn := 0) h, rfl⟩,
     fun h => ⟨.dbGetState (opIndex op), OpcodeRow.eq_of_hits_indexed (unit := 3) (fn := 1) h, rfl⟩,
     fun h => ⟨.evPoll (opIndex op), OpcodeRow.eq_of_hits_indexed (unit := 4) (fn := 0) h, rfl⟩,
     fun h => ⟨.evConsume (opIndex op), OpcodeRow.eq_of_hits_indexed (unit := 4) (fn := 1) h, rfl⟩,
     fun h => ⟨.ctlStep, OpcodeRow.eq_of_hits_full h, rfl⟩,
     nofun⟩

/-- The row of an operation passes its word. -/
theorem encodesRow (i : Instr) : Laws.EncodesRow.Statement i := by
  cases i with
  | sysWait => exact Laws.EncodesRow.sysWait
  | clkTick => exact Laws.EncodesRow.clkTick
  | clkNow => exact Laws.EncodesRow.clkNow
  | clkElapsed => exact Laws.EncodesRow.clkElapsed
  | clkHasElapsed => exact Laws.EncodesRow.clkHasElapsed
  | fltSample => exact Laws.EncodesRow.fltSample
  | fltReading => exact Laws.EncodesRow.fltReading
  | fltMagnitude => exact Laws.EncodesRow.fltMagnitude
  | dbUpdate k => exact Laws.EncodesRow.dbUpdate k
  | dbGetState k => exact Laws.EncodesRow.dbGetState k
  | evPoll k => exact Laws.EncodesRow.evPoll k
  | evConsume k => exact Laws.EncodesRow.evConsume k
  | ctlStep => exact Laws.EncodesRow.ctlStep

theorem opcodeTable_mnemonic_injective :
    ∀ row ∈ opcodeTable, ∀ row' ∈ opcodeTable, row.mnemonic = row'.mnemonic → row = row' := by decide

/-- Settles O3: the rows pass the words of their operations. Two rows that pass one word pass it for one operation,
whose mnemonic they then share. -/
theorem decodingFollowsMaskAndMatch : Obligations.DecodingFollowsMaskAndMatch := by
  refine ⟨fun op i hdecode => ?_, fun op row hrow hhits => ?_, fun op row hrow row' hrow' hhits hhits' => ?_⟩
  · obtain ⟨row, hrow, hmnemonic, hhits⟩ := encodesRow i
    exact ⟨row, hrow, encode_of_decode hdecode ▸ hhits, hmnemonic⟩
  · obtain ⟨i, rfl, hmnemonic⟩ := encode_of_hits row hrow hhits
    exact ⟨i, decode_encode i, hmnemonic⟩
  · obtain ⟨i, hi, hmnemonic⟩ := encode_of_hits row hrow hhits
    obtain ⟨i', hi', hmnemonic'⟩ := encode_of_hits row' hrow' hhits'
    have hdecode : decode op = .ok i := hi ▸ decode_encode i
    obtain rfl : i = i' := Except.ok.inj (hdecode.symm.trans (hi' ▸ decode_encode i'))
    exact opcodeTable_mnemonic_injective row hrow row' hrow' (hmnemonic.symm.trans hmnemonic')

/-! The reserved words (30_encoding.md R90). -/

/-- R90's list. -/
def ReservedWord (op : OpWord) : Prop :=
  op.toNat = 0x00 ∨ (0x02 ≤ op.toNat ∧ op.toNat ≤ 0x0F) ∨ (0x14 ≤ op.toNat ∧ op.toNat ≤ 0x1F) ∨
  (0x23 ≤ op.toNat ∧ op.toNat ≤ 0x2F) ∨ (0x38 ≤ op.toNat ∧ op.toNat ≤ 0x3F) ∨
  (0x48 ≤ op.toNat ∧ op.toNat ≤ 0x4F) ∨ (0x51 ≤ op.toNat ∧ op.toNat ≤ 0x5F) ∨ 0x60 ≤ op.toNat

theorem encode_not_reserved (i : Instr) : ¬ ReservedWord (encode i) := by
  unfold ReservedWord
  rw [encode_toNat]
  cases i <;> simp only [Instr.code] <;> omega

/-- The words outside R90's list are those of the thirteen rows of R86. -/
theorem encode_of_not_reserved {op : OpWord} (h : ¬ ReservedWord op) : ∃ i, encode i = op := by
  by_contra hnone
  have hne (i : Instr) : i.code ≠ op.toNat := fun hi => hnone ⟨i, encode_eq_iff_code.2 hi⟩
  have hsysWait : 0x01 ≠ op.toNat := hne .sysWait
  have hclkTick : 0x10 ≠ op.toNat := hne .clkTick
  have hclkNow : 0x11 ≠ op.toNat := hne .clkNow
  have hclkElapsed : 0x12 ≠ op.toNat := hne .clkElapsed
  have hclkHasElapsed : 0x13 ≠ op.toNat := hne .clkHasElapsed
  have hfltSample : 0x20 ≠ op.toNat := hne .fltSample
  have hfltReading : 0x21 ≠ op.toNat := hne .fltReading
  have hfltMagnitude : 0x22 ≠ op.toNat := hne .fltMagnitude
  have hdbUpdate : 0x30 + op.toNat % 4 ≠ op.toNat := opIndex_val op ▸ hne (.dbUpdate (opIndex op))
  have hdbGetState : 0x34 + op.toNat % 4 ≠ op.toNat := opIndex_val op ▸ hne (.dbGetState (opIndex op))
  have hevPoll : 0x40 + op.toNat % 4 ≠ op.toNat := opIndex_val op ▸ hne (.evPoll (opIndex op))
  have hevConsume : 0x44 + op.toNat % 4 ≠ op.toNat := opIndex_val op ▸ hne (.evConsume (opIndex op))
  have hctlStep : 0x50 ≠ op.toNat := hne .ctlStep
  unfold ReservedWord at h
  omega

theorem decode_error_eq {op : OpWord} {e : DecodeError} (h : decode op = .error e) : e = .reservedOp op := by
  unfold decode at h
  split at h <;> cases h
  rfl

theorem reservedWord_iff_decode (op : OpWord) : ReservedWord op ↔ decode op = .error (.reservedOp op) := by
  constructor
  · intro hreserved
    cases hdecode : decode op with
    | error e => rw [decode_error_eq hdecode]
    | ok i => exact absurd (encode_of_decode hdecode ▸ hreserved) (encode_not_reserved i)
  · intro hdecode
    by_contra hreserved
    obtain ⟨i, rfl⟩ := encode_of_not_reserved hreserved
    rw [decode_encode] at hdecode
    cases hdecode

namespace Machine

/-- A step in which a word that is no operation is presented (30_encoding.md R95). -/
theorem step_reserved {s : State} {e : DecodeError} (hv : s.cfg.valid = true) (hr : s.port.rst = false)
    (ho : s.port.opValid = true) (hd : decode s.port.op = .error e) : step s = .refused .reservedOp := by
  simp [step, State.fetch, hv, hr, ho, hd]

/-- Settles O4: R90's list is what the rows of R86 leave over, and a step refuses whatever the decoder rejects. -/
theorem reservedWordsAreRefused : Obligations.ReservedWordsAreRefused := by
  refine ⟨reservedWord_iff_decode, fun s hv hr ho hnone => ?_⟩
  cases hdecode : decode s.port.op with
  | error e => exact step_reserved hv hr ho hdecode
  | ok i => exact absurd hdecode (hnone i)

/-! The context (30_encoding.md R97) and an absent input (R96). -/

theorem tickContext_eq_decide (i : Instr) : i.tickContext = decide (i = .clkTick) := by cases i <;> rfl

theorem exec_wrongContext {i : Instr} {s : State} (h : s.port.ctx ≠ i.tickContext) :
    exec i s = .refused .wrongContext := by
  cases i with
  | clkTick =>
    unfold exec
    exact State.tickOp_eq_refused.2 ⟨by simpa [Instr.tickContext] using h, rfl⟩
  | _ =>
    unfold exec
    exact State.loopOp_eq_refused.2 ⟨by simpa [Instr.tickContext] using h, rfl⟩

/-- Settles O5: the context an operation is legal in is its agent's. -/
theorem contextAloneDecidesRefusal : Obligations.ContextAloneDecidesRefusal := by
  intro i s
  rw [← tickContext_eq_decide]
  exact ⟨fun h => (exec_completes h).imp fun _ ht => ht.1, exec_wrongContext⟩

theorem answeredOnly_drive (s : State) (v : Nat) : AnsweredOnly s (s.beginOp.drive v) v := by
  simp [AnsweredOnly, State.elements, OutsideKept, EndedWith, NoCommand, OutPort.rest]

/-- Settles O31: all four operations only answer 0 (`exec_absentInput`). -/
theorem absentInputIsANoOperation : Obligations.AbsentInputIsANoOperation := by
  intro i s hctx habsent
  obtain ⟨hupdate, hget, hpoll, hconsume⟩ := exec_absentInput hctx habsent
  have hanswer := answeredOnly_drive s 0
  exact ⟨⟨_, hupdate, hanswer⟩, ⟨_, hget, hanswer⟩, ⟨_, hpoll, hanswer⟩, ⟨_, hconsume, hanswer⟩⟩

end Machine

/-! The largest sample (00_scope.md R8), which fits the result bus (R9(f)). -/

section
variable {c : Cfg} (hc : c.valid = true)
include hc

theorem Cfg.max_lt_two_pow_sampleW : c.max < 2 ^ c.sampleW := by
  obtain ⟨-, -, -, -, -, -, -, -, hderived, -⟩ := c.valid_iff.1 hc
  obtain ⟨hmax, -, -⟩ := c.derivedOk_iff.1 hderived
  have := Nat.two_pow_pos c.sampleW
  omega

theorem Cfg.max_lt_two_pow_tickW : c.max < 2 ^ c.tickW := by
  obtain ⟨-, -, -, -, -, hwidths, -⟩ := c.valid_iff.1 hc
  exact (Cfg.max_lt_two_pow_sampleW hc).trans_le (Nat.pow_le_pow_right (by omega) (c.widthsOk_iff.1 hwidths))

theorem Cfg.zeroRef_le_max : c.zeroRef ≤ c.max := by
  obtain ⟨-, -, -, hzeroRef, -⟩ := c.valid_iff.1 hc
  exact c.zeroRefOk_iff.1 hzeroRef

/-- `MID` is half of the `2^SAMPLE_W` samples, and `MAX` their last, which two thresholds fit below (R9(c)). -/
theorem Cfg.mid_le_max : c.mid ≤ c.max := by
  obtain ⟨-, -, hthresholds, -, -, -, -, -, hderived, -⟩ := c.valid_iff.1 hc
  obtain ⟨hlow, hhigh⟩ := c.thresholdsOk_iff.1 hthresholds
  obtain ⟨hmax, hmid, -⟩ := c.derivedOk_iff.1 hderived
  have hpos := Nat.two_pow_pos (c.sampleW - 1)
  cases hw : c.sampleW with
  | zero =>
    rw [hw, pow_zero] at hmax
    omega
  | succ w =>
    rw [hw, Nat.add_sub_cancel] at hmid hpos
    rw [hw, pow_succ] at hmax
    omega

end

namespace Machine

/-! What an operation can answer: a tick, a bit or a magnitude of the sampler (30_encoding.md R83). -/

theorem Memory.sum_le {m : Memory} {b : Nat} (h : ∀ k, m.read k ≤ b) (n : Nat) : m.sum n ≤ n * b := by
  induction n with
  | zero => exact Nat.zero_le _
  | succ n ih =>
    rw [Memory.sum, Nat.succ_mul]
    exact Nat.add_le_add ih (h n)

/-- The mean of a window of samples is no larger than the largest sample (41_filter.md R130(d)). -/
theorem Memory.windowMean_le {m : Memory} {c : Cfg} (hn : c.n = 2 ^ c.log2N) (h : ∀ k, m.read k ≤ c.max) :
    m.windowMean c ≤ c.max := by
  rw [Memory.windowMean, Nat.shiftRight_eq_div_pow, ← hn]
  exact Nat.div_le_of_le_mul (Memory.sum_le h c.n)

theorem Flt.mean_le_max {f : Flt} {c : Cfg} (hc : c.valid = true) (hf : f.inv c) : f.mean ≤ c.max := by
  obtain ⟨-, hcells, -, hbefore, hafter⟩ := hf
  obtain ⟨hring, -, -, -, -, -, -, -, hderived, -⟩ := c.valid_iff.1 hc
  obtain ⟨hmax, -⟩ := c.derivedOk_iff.1 hderived
  cases hfull : f.full with
  | false => exact (hbefore hfull).1 ▸ Cfg.mid_le_max hc
  | true =>
    rw [hafter hfull]
    refine Memory.windowMean_le (c.ringOk_iff.1 hring).1 fun k => ?_
    have := Memory.read_lt (Nat.two_pow_pos c.sampleW) (fun cell hcell => (hcells cell hcell).2) k
    omega

theorem Flt.reading_le_max {f : Flt} {c : Cfg} (hc : c.valid = true) (hf : f.inv c) : f.reading c ≤ c.max := by
  unfold Flt.reading
  split
  · exact Flt.mean_le_max hc hf
  · exact Cfg.mid_le_max hc

theorem Flt.magnitude_le_max {f : Flt} {c : Cfg} (hc : c.valid = true) (hf : f.inv c) : f.magnitude c ≤ c.max := by
  have hreading := Flt.reading_le_max hc hf
  have hzeroRef := Cfg.zeroRef_le_max hc
  unfold Flt.magnitude absDiff
  split <;> omega

theorem bit_lt_two_pow {w : Nat} (hw : 0 < w) (b : Bool) : bit b < 2 ^ w :=
  (show bit b < 2 by cases b <;> decide).trans_le (Nat.le_self_pow hw.ne' 2)

/-- The gate and the FSM emit no `VALUE` (44_control.md R196 to R200). -/
theorem State.control_cmd_val (s : State) (t m : Nat) (press : Bool) : (s.control t m press).out.cmd.val = 0 := by
  simp only [State.control, State.emit_out_cmd, gate]
  split
  · obtain h | h | h := fsm_cmd s.cfg s.ctl.cstate s.ctl.dwellStart t m <;> rw [h] <;> rfl
  · split <;> split <;> rfl

/-! What fits the output ports (30_encoding.md R83, 10_state.md R49). -/

/-- The result is of `TICK_W` bits and the command's value of `SAMPLE_W`. -/
def OutPort.Fits (o : OutPort) (c : Cfg) : Prop := o.r < 2 ^ c.tickW ∧ o.cmd.val < 2 ^ c.sampleW

theorem OutPort.rest_fits (c : Cfg) : OutPort.rest.Fits c := ⟨Nat.two_pow_pos _, Nat.two_pow_pos _⟩

/-- An operation that answers fits when its answer and the command it has emitted do. -/
theorem State.drive_fits {s : State} {c : Cfg} {v : Nat} (hv : v < 2 ^ c.tickW) (hcmd : s.out.cmd.val < 2 ^ c.sampleW) :
    (s.drive v).out.Fits c := ⟨hv, hcmd⟩

/-- An operation that answers and emits no command fits when its answer does. -/
theorem fits_of_answer {i : Instr} {s t u : State} {v : Nat} (h : exec i s = .next t)
    (hanswer : exec i s = .next (u.drive v)) (hcmd : u.out.cmd = .none) (hv : v < 2 ^ s.cfg.tickW) :
    t.out.Fits s.cfg := by
  obtain rfl : u.drive v = t := Host.Outcome.next.inj (hanswer.symm.trans h)
  exact State.drive_fits hv (hcmd ▸ Nat.two_pow_pos _)

/-- A format I operation fits on an absent input, so it fits when it does on a present one. -/
theorem fits_of_onInput {s t : State} {i : InputIdx} {body : State → State}
    (h : s.loopOp (fun u => u.onInput i body) = .next t) (hbody : (body s.beginOp).out.Fits s.cfg) : t.out.Fits s.cfg := by
  obtain ⟨-, rfl⟩ | ⟨-, rfl⟩ := State.loopOp_onInput_cases h
  · exact hbody
  · exact State.drive_fits (Nat.two_pow_pos _) (Nat.two_pow_pos _)

/-- The one command with a value is the magnitude, in diagnostic mode (44_control.md R192, R194). -/
theorem exec_ctlStep_fits {s t : State} (hmagnitude : s.flt.magnitude s.cfg < 2 ^ s.cfg.sampleW)
    (h : exec .ctlStep s = .next t) : t.out.Fits s.cfg := by
  obtain ⟨t', hexec, hcases⟩ := exec_ctlStep_cases (tickContext_of_exec h)
  obtain rfl : t' = t := Host.Outcome.next.inj (hexec.symm.trans h)
  have hcontrol (u : State) (k m : Nat) (press : Bool) : (u.control k m press).out.cmd.val < 2 ^ s.cfg.sampleW :=
    u.control_cmd_val k m press ▸ Nat.two_pow_pos _
  obtain ⟨-, rfl⟩ | ⟨-, -, rfl⟩ | ⟨-, -, -, rfl⟩ | ⟨-, -, -, rfl⟩ := hcases
  · exact State.drive_fits (Nat.two_pow_pos _) hmagnitude
  · exact State.drive_fits (Nat.two_pow_pos _) (hcontrol _ _ _ _)
  · exact State.drive_fits (Nat.two_pow_pos _) hmagnitude
  · exact State.drive_fits (Nat.two_pow_pos _) (hcontrol _ _ _ _)

theorem exec_fits {i : Instr} {s t : State} (hs : s.inv) (h : exec i s = .next t) : t.out.Fits s.cfg := by
  have hctx := tickContext_of_exec h
  obtain ⟨hvalid, htick, hflt, -⟩ := hs
  have hzero : 0 < 2 ^ s.cfg.tickW := Nat.two_pow_pos _
  have hbit := bit_lt_two_pow (Cfg.tickW_pos hvalid)
  have hmagnitude := Flt.magnitude_le_max hvalid hflt
  cases i with
  | sysWait =>
    rw [exec_sysWait hctx] at h
    obtain rfl := Host.Outcome.next.inj h
    split
    · exact State.drive_fits hzero (Nat.two_pow_pos _)
    · exact OutPort.rest_fits _
  | clkTick => exact fits_of_answer h (exec_clkTick hctx) rfl hzero
  | clkNow => exact fits_of_answer h (exec_clkNow hctx) rfl htick
  | clkElapsed => exact fits_of_answer h (exec_clkElapsed hctx) rfl (elapsedAt_lt _ _ _)
  | clkHasElapsed => exact fits_of_answer h (exec_clkHasElapsed hctx) rfl (hbit _)
  | fltSample =>
    cases hr : s.port.smpReady with
    | true => exact fits_of_answer h (exec_fltSample_ready hctx hr) rfl hzero
    | false => exact fits_of_answer h (exec_fltSample_idle hctx hr) rfl hzero
  | fltReading =>
    exact fits_of_answer h (exec_fltReading hctx) rfl
      ((Flt.reading_le_max hvalid hflt).trans_lt (Cfg.max_lt_two_pow_tickW hvalid))
  | fltMagnitude =>
    exact fits_of_answer h (exec_fltMagnitude hctx) rfl (hmagnitude.trans_lt (Cfg.max_lt_two_pow_tickW hvalid))
  | dbUpdate k => exact fits_of_onInput h ⟨hzero, Nat.two_pow_pos _⟩
  | dbGetState k => exact fits_of_onInput h ⟨hbit _, Nat.two_pow_pos _⟩
  | evPoll k => exact fits_of_onInput h ⟨hzero, Nat.two_pow_pos _⟩
  | evConsume k => exact fits_of_onInput h ⟨hbit _, Nat.two_pow_pos _⟩
  | ctlStep => exact exec_ctlStep_fits (hmagnitude.trans_lt (Cfg.max_lt_two_pow_sampleW hvalid)) h

/-- Settles O56: a reset and an idle step leave the outputs at rest, and an operation what fits (`exec_fits`). -/
theorem outputsFitTheirPorts : Obligations.OutputsFitTheirPorts := by
  intro s t hs hstep
  obtain ⟨-, ⟨-, rfl⟩ | ⟨-, -, rfl⟩ | ⟨-, -, i, u, -, hexec, rfl⟩⟩ := step_eq_next.1 hstep
  · exact OutPort.rest_fits s.cfg
  · exact OutPort.rest_fits s.cfg
  · rw [State.advance_out]
    exact exec_fits hs hexec

end Machine
end Sys2Proof
end

section
/-!
PROOFS. The Monotonic Clock (40_clock.md). The laws come first: what the modular difference is when the counter stands a given
number of ticks past a timestamp, from which its values on either side of the wrap follow (R112, R115), and the
result of a comparison with it (R113).
-/

namespace Sys2Proof
namespace Machine

/-! The modular difference of two counter values (40_clock.md R112, R115). -/

/-- `k` ticks past a timestamp the difference is `k` modulo the period, however large `k` is. -/
theorem elapsedAt_addW (c : Cfg) (start k : Nat) : elapsedAt c (addW c.tickW start k) start = k % 2 ^ c.tickW := by
  rw [← Int.natCast_inj, elapsedAt_eq_ticksSince, ticksSince, addW, Int.natCast_mod, Int.emod_sub_emod, Nat.cast_add,
    add_sub_cancel_left, Int.natCast_mod]

/-- The counter has not wrapped since the timestamp. -/
theorem elapsedAt_of_le {c : Cfg} {t start : Nat} (hle : start ≤ t) (ht : t < 2 ^ c.tickW) :
    elapsedAt c t start = t - start := by
  have hticks : addW c.tickW start (t - start) = t := by
    rw [addW, Nat.add_sub_cancel' hle, Nat.mod_eq_of_lt ht]
  have h := elapsedAt_addW c start (t - start)
  rwa [hticks, Nat.mod_eq_of_lt (by omega)] at h

/-- The counter has wrapped since the timestamp (40_clock.md R112(b)). -/
theorem elapsedAt_of_lt {c : Cfg} {t start : Nat} (hlt : t < start) (hstart : start < 2 ^ c.tickW) :
    elapsedAt c t start = t + 2 ^ c.tickW - start := by
  have hticks : addW c.tickW start (t + 2 ^ c.tickW - start) = t := by
    rw [addW, Nat.add_sub_cancel' (by omega), Nat.add_mod_right, Nat.mod_eq_of_lt (by omega)]
  have h := elapsedAt_addW c start (t + 2 ^ c.tickW - start)
  rwa [hticks, Nat.mod_eq_of_lt (by omega)] at h

/-- The largest difference is that of the counter one tick before the timestamp comes round (40_clock.md R112(d), R113(b)). -/
theorem le_elapsedAt_max_iff {c : Cfg} {t start : Nat} (ht : t < 2 ^ c.tickW) (hstart : start < 2 ^ c.tickW) :
    2 ^ c.tickW - 1 ≤ elapsedAt c t start ↔ (t + 1) % 2 ^ c.tickW = start := by
  have hnext : (t + 1) % 2 ^ c.tickW = if t + 1 = 2 ^ c.tickW then 0 else t + 1 := by
    split
    case isTrue hwrap => rw [hwrap, Nat.mod_self]
    case isFalse hwrap => exact Nat.mod_eq_of_lt (by omega)
  rw [hnext]
  rcases Nat.lt_or_ge t start with hlt | hle
  · rw [elapsedAt_of_lt hlt hstart]
    split <;> omega
  · rw [elapsedAt_of_le hle ht]
    split <;> omega

theorem hasElapsedAt_iff_ticksSince {c : Cfg} {t start d : Nat} :
    hasElapsedAt c t start d = true ↔ (d : Int) ≤ ticksSince c t start := by
  rw [hasElapsedAt_iff, ← elapsedAt_eq_ticksSince, Nat.cast_le]

theorem hasElapsedAt_addW {c : Cfg} {start k d : Nat} :
    hasElapsedAt c (addW c.tickW start k) start d = true ↔ d ≤ k % 2 ^ c.tickW := by
  rw [hasElapsedAt_iff, elapsedAt_addW]

/-- Settles O19: the difference is the exact residue (`elapsedAt_eq_ticksSince`), and that of `k` ticks is `k` modulo the
period (`elapsedAt_addW`). -/
theorem clockLawsAcrossWraparound : Obligations.ClockLawsAcrossWraparound :=
  fun c t s _ k => ⟨hasElapsedAt_iff_ticksSince, elapsedAt_eq_ticksSince c t s, elapsedAt_addW c s k,
    hasElapsedAt_addW, elapsedAt_lt c t s⟩

/-! The operations. -/

/-- Settles O15: the next state is `exec_clkTick`'s, the refusal is the context's, and no other operation owns the clock. -/
theorem clkTickAdvancesTheCounter : Obligations.ClkTickAdvancesTheCounter := by
  refine ⟨decode_encode .clkTick, fun s => ⟨fun hctx => ⟨_, exec_clkTick hctx, ?_⟩, fun hctx => ?_, ?_⟩⟩
  · simp [Clk.advance, addW, tickPinNext, OutsideKept, EndedWith, NoCommand, OutPort.rest]
  · exact exec_wrongContext (by simp [hctx, Instr.tickContext])
  · intro i t hi hexec
    obtain ⟨hclk, -⟩ := eachElementHasOneOwner i s t hexec
    rw [hclk hi]

/-- Settles O16. -/
theorem clkNowReadsTheCounter : Obligations.ClkNowReadsTheCounter :=
  ⟨decode_encode .clkNow, fun s hctx => ⟨_, exec_clkNow hctx, answeredOnly_drive s _⟩⟩

/-- A bus carries a number of its width as it is (30_encoding.md R82). -/
theorem State.busA_of_lt {s : State} (h : s.port.a < 2 ^ s.cfg.tickW) : s.busA = s.port.a := Nat.mod_eq_of_lt h

theorem State.busB_of_lt {s : State} (h : s.port.b < 2 ^ s.cfg.tickW) : s.busB = s.port.b := Nat.mod_eq_of_lt h

/-- Settles O17: the corner cases are the difference's on either side of the wrap. -/
theorem clkElapsedIsTheModularDifference : Obligations.ClkElapsedIsTheModularDifference := by
  refine ⟨decode_encode .clkElapsed, fun s hctx ha htick => ?_⟩
  refine ⟨_, _, exec_clkElapsed hctx, answeredOnly_drive s _, ?_⟩
  rw [State.busA_of_lt ha]
  refine ⟨elapsedAt_eq_ticksSince _ _ _, fun heq => ?_, fun hlt => elapsedAt_of_lt hlt ha, fun k hk => ?_, fun hnext => ?_⟩
  · rw [elapsedAt_of_le heq.le htick, heq, Nat.sub_self]
  · rw [hk, elapsedAt_addW]
  · rw [elapsedAt_of_lt (by omega) ha]
    omega

theorem bit_eq_one_iff {b : Bool} : bit b = 1 ↔ b = true := by cases b <;> decide

/-- Settles O18: the result is 1 exactly when the modular difference has reached `B`. -/
theorem clkHasElapsedComparesTheDifference : Obligations.ClkHasElapsedComparesTheDifference := by
  refine ⟨decode_encode .clkHasElapsed, fun s hctx ha hb => ?_⟩
  refine ⟨_, _, exec_clkHasElapsed hctx, answeredOnly_drive s _, ?_⟩
  rw [State.busA_of_lt ha, State.busB_of_lt hb]
  refine ⟨?_, fun hzero => ?_, fun hmax htick => ?_, fun k hk => ?_⟩
  · simp only [bit, hasElapsedAt_iff_ticksSince]
  · rw [bit_eq_one_iff, hasElapsedAt_iff, hzero]
    exact Nat.zero_le _
  · rw [bit_eq_one_iff, hasElapsedAt_iff, hmax]
    exact le_elapsedAt_max_iff htick ha
  · simp only [bit, hk, hasElapsedAt_addW]

end Machine
end Sys2Proof
end

section
/-!
PROOFS. The Signal Averaging Filter (41_filter.md). The laws come first: the sum and the mean of the ring's slots, and what a
consumed sample makes of each element (R130). For the runs, the ring is read as the list of its samples from the oldest to
the newest, which a consumed sample shifts by one, and a step takes the first of a list of presentations.
-/

namespace Sys2Proof

section
variable {c : Cfg} (hc : c.valid = true)
include hc

theorem Cfg.n_eq_two_pow : c.n = 2 ^ c.log2N := by
  obtain ⟨hring, -⟩ := c.valid_iff.1 hc
  exact (c.ringOk_iff.1 hring).1

/-- The ring has at least two slots (R9(a)), an even number of them. -/
theorem Cfg.exists_n_eq_two_mul : ∃ m, 0 < m ∧ c.n = 2 * m := by
  obtain ⟨hring, -⟩ := c.valid_iff.1 hc
  obtain ⟨hn, hlog⟩ := c.ringOk_iff.1 hring
  obtain ⟨k, hk⟩ := Nat.exists_eq_add_of_le' hlog
  exact ⟨2 ^ k, Nat.two_pow_pos k, by rw [hn, hk, pow_succ']⟩

/-- A sample has at least one bit, for two thresholds fit below `MAX` (R9(c)), so `MAX` is odd. -/
theorem Cfg.max_eq_two_mul_sub_one : c.max = 2 * 2 ^ (c.sampleW - 1) - 1 := by
  obtain ⟨-, -, hthresholds, -, -, -, -, -, hderived, -⟩ := c.valid_iff.1 hc
  obtain ⟨hlow, hhigh⟩ := c.thresholdsOk_iff.1 hthresholds
  obtain ⟨hmax, -, -⟩ := c.derivedOk_iff.1 hderived
  cases hw : c.sampleW with
  | zero =>
    rw [hw, pow_zero] at hmax
    omega
  | succ w => rw [hmax, hw, pow_succ', Nat.add_sub_cancel]

end

namespace Machine

/-! The sum of the slots (41_filter.md R130(d)). -/

theorem Memory.sum_eq_sum_range (m : Memory) (n : Nat) : m.sum n = ∑ k ∈ Finset.range n, m.read k := by
  induction n with
  | zero => rfl
  | succ n ih => rw [Memory.sum, ih, Finset.sum_range_succ]

theorem Memory.windowMean_eq_div (m : Memory) (c : Cfg) :
    m.windowMean c = (∑ k ∈ Finset.range c.n, m.read k) / 2 ^ c.log2N := by
  rw [Memory.windowMean, Nat.shiftRight_eq_div_pow, Memory.sum_eq_sum_range]

/-- Some slot of the window is at most its mean: else each is above it, and so their sum above `N` times the next number. -/
theorem Memory.exists_read_le_windowMean {m : Memory} {c : Cfg} (hc : c.valid = true) :
    ∃ j < c.n, m.read j ≤ m.windowMean c := by
  have hsum : ∑ k ∈ Finset.range c.n, m.read k < ∑ _k ∈ Finset.range c.n, (m.windowMean c + 1) := by
    rw [Finset.sum_const, Finset.card_range, smul_eq_mul, Memory.windowMean_eq_div, ← Cfg.n_eq_two_pow hc]
    exact Nat.lt_mul_div_succ _ (Cfg.n_pos hc)
  obtain ⟨j, hj, hlt⟩ := Finset.exists_lt_of_sum_lt hsum
  exact ⟨j, Finset.mem_range.1 hj, Nat.le_of_lt_succ hlt⟩

/-- Some slot of the window is at least its mean: `N` times the mean is at most the sum. -/
theorem Memory.exists_windowMean_le_read {m : Memory} {c : Cfg} (hc : c.valid = true) :
    ∃ k < c.n, m.windowMean c ≤ m.read k := by
  have hsum : ∑ _k ∈ Finset.range c.n, m.windowMean c ≤ ∑ k ∈ Finset.range c.n, m.read k := by
    rw [Finset.sum_const, Finset.card_range, smul_eq_mul, Memory.windowMean_eq_div, ← Cfg.n_eq_two_pow hc]
    exact Nat.mul_div_le _ _
  obtain ⟨k, hk, hle⟩ :=
    Finset.exists_le_of_sum_le (Finset.nonempty_range_iff.2 (Cfg.n_pos hc).ne') hsum
  exact ⟨k, Finset.mem_range.1 hk, hle⟩

/-! What a consumed sample makes of each element (41_filter.md R130). -/

@[simp] theorem Flt.ingest_hist (f : Flt) (c : Cfg) (raw : Nat) :
    (f.ingest c raw).hist = f.hist.write f.cursor raw := rfl

@[simp] theorem Flt.ingest_cursor (f : Flt) (c : Cfg) (raw : Nat) :
    (f.ingest c raw).cursor = if f.cursor = c.n - 1 then 0 else f.cursor + 1 := rfl

theorem Flt.ingest_full_iff {f : Flt} {c : Cfg} {raw : Nat} :
    (f.ingest c raw).full = true ↔ f.full = true ∨ f.cursor = c.n - 1 := by
  simp [Flt.ingest, fullNext]

theorem Flt.ingest_mean_of_full {f : Flt} {c : Cfg} {raw : Nat} (h : (f.ingest c raw).full = true) :
    (f.ingest c raw).mean = (f.hist.write f.cursor raw).windowMean c := if_pos h

theorem Flt.ingest_mean_of_not_full {f : Flt} {c : Cfg} {raw : Nat} (h : (f.ingest c raw).full = false) :
    (f.ingest c raw).mean = f.mean := if_neg (by rw [← Bool.not_eq_true] at h; exact h)

theorem Flt.reading_of_full {f : Flt} {c : Cfg} (h : f.full = true) : f.reading c = f.mean := if_pos h

theorem Flt.reading_of_not_full {f : Flt} {c : Cfg} (h : f.full = false) : f.reading c = c.mid :=
  if_neg (by simp [h])

/-- A sample that does not leave the ring full leaves the reading at the midpoint, where it was. -/
theorem Flt.full_of_reading_ingest_ne {f : Flt} {c : Cfg} {raw : Nat}
    (h : (f.ingest c raw).reading c ≠ f.reading c) : (f.ingest c raw).full = true := by
  by_contra hafter
  have hbefore : ¬ f.full = true := fun hf => hafter (Flt.full_ingest hf)
  rw [Bool.not_eq_true] at hafter hbefore
  exact h (by rw [Flt.reading_of_not_full hafter, Flt.reading_of_not_full hbefore])

/-- The distance of the reading from the reference, in exact integers (41_filter.md R132, R133). -/
theorem Flt.magnitude_eq_abs (f : Flt) (c : Cfg) : (f.magnitude c : Int) = |(f.reading c : Int) - c.zeroRef| := by
  rw [Flt.magnitude, absDiff_eq_natAbs, Int.natCast_natAbs]

/-! The operations. -/

/-- A sample bus of `SAMPLE_W` wires carries a number of its width as it is. -/
theorem State.pinRaw_of_lt {s : State} (h : s.port.smpRaw < 2 ^ s.cfg.sampleW) : s.pinRaw = s.port.smpRaw :=
  Nat.mod_eq_of_lt h

/-- Settles O21: the operation only answers when no sample is ready; else the ring's laws say what each slot reads after
the write, and so what the recomputed mean is. -/
theorem fltSampleConsumesOneSample : Obligations.FltSampleConsumesOneSample := by
  refine ⟨decode_encode .fltSample, fun s hctx hraw hwf => ?_⟩
  cases hr : s.port.smpReady with
  | false =>
    refine ⟨_, exec_fltSample_idle hctx hr, ?_⟩
    simp [OutsideKept, EndedWith, NoCommand, OutPort.rest]
  | true =>
    refine ⟨_, exec_fltSample_ready hctx hr, by simp, by simp, by simp, by simp, by simp [OutsideKept],
      by simp [EndedWith], by simp [NoCommand, OutPort.rest], by simp, nofun, fun _ => ?_⟩
    rw [State.drive_flt, State.pulseAck_flt, State.pinRaw_of_lt hraw]
    refine ⟨Memory.read_write hwf _ _, rfl, Flt.ingest_full_iff, Flt.ingest_mean_of_not_full, fun hfull => ?_⟩
    rw [Flt.ingest_mean_of_full hfull, Memory.windowMean_eq_div]
    simp only [Memory.read_write hwf]

/-- Only a consumed sample writes the filter (10_state.md R42), so only that can change the reading. -/
theorem fltSample_of_reading_ne {i : Instr} {s t : State} (hexec : exec i s = .next t)
    (hne : t.flt.reading t.cfg ≠ s.flt.reading s.cfg) :
    i = .fltSample ∧ s.port.smpReady = true ∧ t.flt.full = true := by
  obtain ⟨hcfg, -, -⟩ := exec_outsideKept hexec
  rw [hcfg] at hne
  have hwritten : t.flt ≠ s.flt := fun h => hne (by rw [h])
  obtain ⟨-, howner, -⟩ := eachElementHasOneOwner i s t hexec
  obtain rfl : i = .fltSample := not_imp_comm.1 howner hwritten
  have hctx : s.port.ctx = false := tickContext_of_exec hexec
  cases hr : s.port.smpReady with
  | false =>
    rw [exec_fltSample_idle hctx hr] at hexec
    obtain rfl := Host.Outcome.next.inj hexec
    exact absurd (by simp) hwritten
  | true =>
    rw [exec_fltSample_ready hctx hr] at hexec
    obtain rfl := Host.Outcome.next.inj hexec
    exact ⟨rfl, rfl, Flt.full_of_reading_ingest_ne hne⟩

/-- Settles O22. -/
theorem fltReadingIsTheMeanOrTheMidpoint : Obligations.FltReadingIsTheMeanOrTheMidpoint :=
  ⟨decode_encode .fltReading, fun s hctx => ⟨_, exec_fltReading hctx, answeredOnly_drive s _⟩,
    fun _ _ _ => fltSample_of_reading_ne⟩

/-- Settles O23. -/
theorem fltMagnitudeIsTheDistance : Obligations.FltMagnitudeIsTheDistance := by
  refine ⟨decode_encode .fltMagnitude, fun s hctx => ⟨_, _, exec_fltMagnitude hctx, answeredOnly_drive s _, ?_⟩⟩
  rw [Flt.magnitude_eq_abs, Flt.reading, Nat.cast_ite]

/-- Settles O26: with the ring full the mean is that of the window, which lies between two of its slots; the reading is within
`[0, MAX]`, and so no farther from `ZERO_REF` than the farther end. -/
theorem meanLiesWithinTheWindow : Obligations.MeanLiesWithinTheWindow := by
  intro s hs
  obtain ⟨hvalid, -, hflt, -⟩ := hs
  refine ⟨fun hfull => ?_, Flt.mean_le_max hvalid hflt, ?_⟩
  · obtain ⟨-, -, -, -, hmean⟩ := hflt
    obtain ⟨j, hj, hbelow⟩ := Memory.exists_read_le_windowMean (m := s.flt.hist) hvalid
    obtain ⟨k, hk, habove⟩ := Memory.exists_windowMean_le_read (m := s.flt.hist) hvalid
    rw [hmean hfull]
    exact ⟨j, k, hj, hk, hbelow, habove⟩
  · have hreading := Flt.reading_le_max hvalid hflt
    have hzeroRef := Cfg.zeroRef_le_max hvalid
    unfold Flt.magnitude absDiff
    split <;> omega

/-! The window, oldest sample first: slots that no sample has reached stand before those that one has. -/

/-- What the ring's slots read from the cursor on, once round. -/
def Flt.window (f : Flt) (c : Cfg) : List Nat :=
  (List.range c.n).map fun k => f.hist.read ((f.cursor + k) % c.n)

@[simp] theorem Flt.length_window (f : Flt) (c : Cfg) : (f.window c).length = c.n := by simp [Flt.window]

/-- Going once round from any slot visits each slot once. -/
theorem sum_range_add_mod (g : Nat → Nat) (a n : Nat) :
    ∑ k ∈ Finset.range n, g ((a + k) % n) = ∑ k ∈ Finset.range n, g k := by
  calc ∑ k ∈ Finset.range n, g ((a + k) % n)
      = ∑ k ∈ Finset.Ico a (a + n), g (k % n) := by
        rw [Finset.sum_Ico_eq_sum_range, Nat.add_sub_cancel_left]
    _ = ∑ k ∈ (Finset.Ico a (a + n)).image (· % n), g k := (Finset.sum_image (Nat.mod_injOn_Ico a n)).symm
    _ = ∑ k ∈ Finset.range n, g k := by rw [Nat.image_Ico_mod]

theorem Flt.windowMean_eq_sum_window_div {f : Flt} {c : Cfg} (hc : c.valid = true) :
    f.hist.windowMean c = (f.window c).sum / c.n := by
  rw [Memory.windowMean_eq_div, ← Cfg.n_eq_two_pow hc, ← sum_range_add_mod _ f.cursor]
  rfl

/-- The cursor moves to the next slot round the ring (41_filter.md R130(b)). -/
theorem Flt.ingest_cursor_eq_mod {f : Flt} {c : Cfg} {raw : Nat} (h : f.cursor < c.n) :
    (f.ingest c raw).cursor = (f.cursor + 1) % c.n := by
  rw [Flt.ingest_cursor]
  split
  case isTrue hlast => rw [show f.cursor + 1 = c.n by omega, Nat.mod_self]
  case isFalse hlast => rw [Nat.mod_eq_of_lt (by omega)]

/-- Going round from the slot after `a`, the last one visited is `a`. -/
theorem succ_add_mod_eq_self_iff {a k m : Nat} (ha : a ≤ m) (hk : k ≤ m) : (a + 1 + k) % (m + 1) = a ↔ k = m := by
  rcases Nat.lt_or_ge (a + 1 + k) (m + 1) with h | h
  · rw [Nat.mod_eq_of_lt h]
    omega
  · rw [Nat.mod_eq_sub_mod h, Nat.mod_eq_of_lt (by omega)]
    omega

/-- A consumed sample takes the place of the oldest one and is the newest (41_filter.md R130(a), (b)). -/
theorem Flt.window_ingest {f : Flt} {c : Cfg} {raw : Nat} (hf : f.inv c) :
    (f.ingest c raw).window c = (f.window c).tail ++ [raw] := by
  obtain ⟨hwf, -, hcursor, -, -⟩ := hf
  obtain ⟨m, hm⟩ : ∃ m, c.n = m + 1 := Nat.exists_eq_add_of_le' (by omega : 1 ≤ c.n)
  have hslot (k : Nat) (hk : k ≤ m) := succ_add_mod_eq_self_iff (show f.cursor ≤ m by omega) hk
  have hafter : (f.ingest c raw).window c =
      (List.range (m + 1)).map fun k =>
        if (f.cursor + 1 + k) % (m + 1) = f.cursor then raw else f.hist.read ((f.cursor + 1 + k) % (m + 1)) := by
    simp only [Flt.window, Flt.ingest_hist, Memory.read_write hwf, Flt.ingest_cursor_eq_mod hcursor, Nat.mod_add_mod, hm]
  have hbefore : (f.window c).tail = (List.range m).map fun k => f.hist.read ((f.cursor + 1 + k) % (m + 1)) := by
    simp [Flt.window, hm, List.range_succ_eq_map, Nat.add_assoc, Nat.add_comm 1]
  rw [hafter, hbefore, List.range_succ, List.map_append, List.map_singleton, if_pos ((hslot m le_rfl).2 rfl)]
  congr 1
  refine List.map_congr_left fun k hk => if_neg ?_
  have hk := List.mem_range.1 hk
  rw [hslot k hk.le]
  exact hk.ne

/-! Consuming a list of samples, first one first. -/

/-- The filter after consuming each of `xs`. -/
def Flt.ingestAll (f : Flt) (c : Cfg) (xs : List Nat) : Flt := xs.foldl (fun g x => g.ingest c x) f

@[simp] theorem Flt.ingestAll_nil (f : Flt) (c : Cfg) : f.ingestAll c [] = f := rfl

@[simp] theorem Flt.ingestAll_cons (f : Flt) (c : Cfg) (x : Nat) (xs : List Nat) :
    f.ingestAll c (x :: xs) = (f.ingest c x).ingestAll c xs := rfl

theorem Flt.inv_ingestAll {c : Cfg} (hn : 0 < c.n) {xs : List Nat} (hxs : ∀ x ∈ xs, x < 2 ^ c.sampleW) :
    ∀ {f : Flt}, f.inv c → (f.ingestAll c xs).inv c := by
  induction xs with
  | nil => exact id
  | cons x xs ih =>
    rw [List.forall_mem_cons] at hxs
    exact fun hf => ih hxs.2 (Flt.inv_ingest hn hxs.1 hf)

/-- The window is the newest of its old samples followed by those consumed. -/
theorem Flt.window_ingestAll {c : Cfg} (hn : 0 < c.n) {xs : List Nat} (hxs : ∀ x ∈ xs, x < 2 ^ c.sampleW) :
    ∀ {f : Flt}, f.inv c → (f.ingestAll c xs).window c = (f.window c ++ xs).drop xs.length := by
  induction xs with
  | nil => simp
  | cons x xs ih =>
    intro f hf
    rw [List.forall_mem_cons] at hxs
    have hne : f.window c ≠ [] := List.ne_nil_of_length_pos (by rwa [Flt.length_window])
    rw [Flt.ingestAll_cons, ih hxs.2 (Flt.inv_ingest hn hxs.1 hf), Flt.window_ingest hf, List.append_assoc,
      List.singleton_append, List.length_cons, ← List.tail_append_of_ne_nil hne, List.drop_tail]

theorem Flt.full_ingestAll {c : Cfg} (xs : List Nat) : ∀ {f : Flt}, f.full = true → (f.ingestAll c xs).full = true := by
  induction xs with
  | nil => exact id
  | cons x xs ih => exact fun hf => ih (Flt.full_ingest hf)

/-- The first lap is over when the samples reach the last slot (41_filter.md R130(c)). -/
theorem Flt.full_ingestAll_iff {c : Cfg} {xs : List Nat} :
    ∀ {f : Flt}, f.full = false → f.cursor < c.n →
      ((f.ingestAll c xs).full = true ↔ c.n ≤ f.cursor + xs.length) := by
  induction xs with
  | nil =>
    intro f hfull hcursor
    simp [hfull, hcursor]
  | cons x xs ih =>
    intro f hfull hcursor
    rw [Flt.ingestAll_cons, List.length_cons]
    by_cases hlast : f.cursor = c.n - 1
    · have hnow : (f.ingest c x).full = true := Flt.ingest_full_iff.2 (.inr hlast)
      exact iff_of_true (Flt.full_ingestAll xs hnow) (by omega)
    · have hnot : (f.ingest c x).full = false := by
        rw [← Bool.not_eq_true, Flt.ingest_full_iff]
        simp [hfull, hlast]
      have hnext : (f.ingest c x).cursor = f.cursor + 1 := if_neg hlast
      rw [ih hnot (by omega), hnext]
      omega

/-- From reset, the reading is the midpoint before the first lap is over and then the mean of the newest `N` samples. -/
theorem Flt.reading_ingestAll_initial {c : Cfg} (hc : c.valid = true) {xs : List Nat}
    (hxs : ∀ x ∈ xs, x < 2 ^ c.sampleW) :
    ((Flt.initial c).ingestAll c xs).reading c =
      if xs.length < c.n then c.mid else (xs.drop (xs.length - c.n)).sum / c.n := by
  have hn := Cfg.n_pos hc
  have hinit := Flt.inv_initial hn
  have hlap : ((Flt.initial c).ingestAll c xs).full = true ↔ c.n ≤ xs.length := by
    rw [Flt.full_ingestAll_iff rfl hn, Flt.initial, Nat.zero_add]
  split
  case isTrue hlt =>
    exact Flt.reading_of_not_full (by rw [← Bool.not_eq_true, hlap]; omega)
  case isFalse hlt =>
    have hfull := hlap.2 (by omega)
    obtain ⟨-, -, -, -, hmean⟩ := Flt.inv_ingestAll hn hxs hinit
    have hwindow : ((Flt.initial c).ingestAll c xs).window c = xs.drop (xs.length - c.n) := by
      rw [Flt.window_ingestAll hn hxs hinit, List.drop_append, Flt.length_window,
        List.drop_eq_nil_of_le (by rw [Flt.length_window]; omega), List.nil_append]
    rw [Flt.reading_of_full hfull, hmean hfull, Flt.windowMean_eq_sum_window_div hc, hwindow]

/-! Runs of presented operations. -/

/-- The step that takes the first of a list of presentations executes its operation and leaves the rest of the list to come. -/
theorem step_load_present {s u : State} {i : Instr} {p : InPort} {ps : List InPort} (hv : s.cfg.valid = true)
    (h : exec i (s.load (p.present i :: ps)) = .next u) : step (s.load (p.present i :: ps)) = .next (u.load ps) := by
  obtain ⟨-, -, hpending⟩ := exec_outsideKept h
  have hnext : u.advance = u.load ps := by rw [State.advance, hpending]; rfl
  rw [step_presented (s := s.load (p.present i :: ps)) hv rfl rfl (decode_encode i), h, ← hnext]
  rfl

/-- `FLT.SAMPLE` presented with the sample `x` ready. -/
def InPort.presentSample (pins : InPort) (x : Nat) : InPort :=
  ({ pins with smpReady := true, smpRaw := x } : InPort).present .fltSample

theorem exec_presentSample {s : State} {pins : InPort} {x : Nat} {ps : List InPort} (hx : x < 2 ^ s.cfg.sampleW) :
    ∃ u, exec .fltSample (s.load (pins.presentSample x :: ps)) = .next u ∧ u.cfg = s.cfg ∧
      u.flt = s.flt.ingest s.cfg x := by
  refine ⟨_, exec_fltSample_ready rfl rfl, by simp, ?_⟩
  rw [State.drive_flt, State.pulseAck_flt, State.pinRaw_of_lt hx]
  rfl

/-- A run of `FLT.SAMPLE` over samples in range consumes them all. -/
theorem core_run_presentSample (pins : InPort) {xs : List Nat} :
    ∀ {s : State}, s.cfg.valid = true → (∀ x ∈ xs, x < 2 ^ s.cfg.sampleW) →
      ∃ t : State, Sys2Proof.core.run xs.length (s.load (xs.map pins.presentSample)) = .next t ∧
        t.flt = s.flt.ingestAll s.cfg xs := by
  induction xs with
  | nil => exact fun _ _ => ⟨_, core_run_zero _, rfl⟩
  | cons x xs ih =>
    intro s hv hxs
    rw [List.forall_mem_cons] at hxs
    obtain ⟨u, hexec, hcfg, hflt⟩ := exec_presentSample (pins := pins) (ps := xs.map pins.presentSample) hxs.1
    obtain ⟨t, hrun, ht⟩ := ih (s := u) (hcfg ▸ hv) (hcfg ▸ hxs.2)
    refine ⟨t, ?_, by rw [ht, hcfg, hflt, Flt.ingestAll_cons]⟩
    exact (core_run_succ xs.length (step_load_present hv hexec)).trans hrun

/-- Settles O24. -/
theorem filterAveragesTheNewestWindow : Obligations.FilterAveragesTheNewestWindow := by
  intro c pins xs hc hxs
  obtain ⟨t, hrun, ht⟩ := core_run_presentSample pins (s := State.resetOf c) hc hxs
  exact ⟨t, hrun, by rw [ht]; exact Flt.reading_ingestAll_initial hc hxs⟩

/-- A run of `FLT.SAMPLE` over exactly one window, from reset, reads as the mean of its samples. -/
theorem core_run_window {c : Cfg} (pins : InPort) {xs : List Nat} (hc : c.valid = true)
    (hxs : ∀ x ∈ xs, x < 2 ^ c.sampleW) (hlen : xs.length = c.n) :
    ∃ t : State, Sys2Proof.core.run c.n ((State.resetOf c).load (xs.map pins.presentSample)) = .next t ∧
      t.flt.reading c = xs.sum / c.n := by
  obtain ⟨t, hrun, hreading⟩ := filterAveragesTheNewestWindow c pins xs hc hxs
  rw [if_neg (by omega), hlen, Nat.sub_self, List.drop_zero] at hreading
  exact ⟨t, hlen ▸ hrun, hreading⟩

/-- The window of 41_filter.md R134(b): 0 and `b` in turn. -/
def alternating (b n : Nat) : List Nat := (List.range n).map fun k => if k % 2 = 0 then 0 else b

theorem sum_alternating (b m : Nat) : (alternating b (2 * m)).sum = m * b := by
  induction m with
  | zero => simp [alternating]
  | succ m ih =>
    have hpair : alternating b (2 * (m + 1)) = alternating b (2 * m) ++ [0, b] := by
      simp [alternating, Nat.mul_succ, List.range_succ]
    rw [hpair, List.sum_append, ih, Nat.succ_mul]
    simp

theorem le_of_mem_alternating {b n x : Nat} (hx : x ∈ alternating b n) : x ≤ b := by
  obtain ⟨k, -, rfl⟩ := List.mem_map.1 hx
  split
  · exact Nat.zero_le b
  · exact le_rfl

/-- Settles O25: the sum of a window of equal samples is `N` times one of them, that of an alternating one half `N` times
`MAX`, and `MAX` is odd. -/
theorem filterConvergesOnAFullWindow : Obligations.FilterConvergesOnAFullWindow := by
  intro c pins hc
  constructor
  · intro v hv
    obtain ⟨t, hrun, hreading⟩ := core_run_window pins (xs := List.replicate c.n v) hc
      (fun x hx => (List.eq_of_mem_replicate hx).symm ▸ hv) List.length_replicate
    rw [List.map_replicate] at hrun
    refine ⟨t, hrun, ?_⟩
    rw [hreading, List.sum_replicate, smul_eq_mul, Nat.mul_div_cancel_left v (Cfg.n_pos hc)]
  · obtain ⟨t, hrun, hreading⟩ := core_run_window pins (xs := alternating c.max c.n) hc
      (fun x hx => (le_of_mem_alternating hx).trans_lt (Cfg.max_lt_two_pow_sampleW hc)) (by simp [alternating])
    rw [alternating, List.map_map] at hrun
    refine ⟨t, hrun, ?_⟩
    obtain ⟨m, hm, hn⟩ := Cfg.exists_n_eq_two_mul hc
    rw [hreading, hn, sum_alternating, Nat.mul_comm 2 m, Nat.mul_div_mul_left _ _ hm, Cfg.max_eq_two_mul_sub_one hc]
    omega

end Machine
end Sys2Proof
end

section
/-!
PROOFS. The Debounce Unit (42_debounce.md). The laws come first: what one debounce step makes of each element of its input
(R150), and with which reads the settled value can change (R153(b)). For a run, how long a raw value has been held is read
from `LAST_RAW` and `CNT`, and one more read of it makes that one more (R153(a)).
-/

namespace Sys2Proof
namespace Machine

/-! One debounce step (42_debounce.md R150). -/

/-- `raw` is the settled value of input `i`. -/
def Db.Committed (d : Db) (i : InputIdx) (raw : Bool) : Prop := d.validated[i] = raw ∧ d.initialized[i] = true

/-- `LAST_RAW` is the value read, whether it changed or not. -/
theorem Db.lastRaw_update (d : Db) (c : Cfg) (i : InputIdx) (raw : Bool) : (d.update c i raw).lastRaw[i] = raw := by
  obtain ⟨-, h⟩ | ⟨hraw, -, h⟩ | ⟨hraw, -, h⟩ := d.update_cases c i raw
  · simp only [h, vector_get_set, if_true]
  · exact h ▸ hraw.symm
  · exact h ▸ hraw.symm

/-- A changed read restarts the window. -/
theorem Db.update_of_changed {d : Db} {c : Cfg} {i : InputIdx} {raw : Bool} (hraw : raw ≠ d.lastRaw[i]) :
    (d.update c i raw).cnt[i] = 0 ∧ (d.update c i raw).validated[i] = d.validated[i] ∧
      (d.update c i raw).initialized[i] = d.initialized[i] := by
  obtain ⟨-, h⟩ | ⟨hsame, -⟩ | ⟨hsame, -⟩ := d.update_cases c i raw
  · simp only [h, vector_get_set, if_true, and_self]
  · exact absurd hsame hraw
  · exact absurd hsame hraw

/-- An unchanged read is counted up to `DB_THRESH`, and commits exactly there. -/
theorem Db.update_of_unchanged {d : Db} {c : Cfg} {i : InputIdx} {raw : Bool} (hraw : raw = d.lastRaw[i]) :
    (d.update c i raw).cnt[i] = min (d.cnt[i] + 1) c.dbThresh ∧
      ((d.update c i raw).cnt[i] = c.dbThresh → (d.update c i raw).Committed i raw) ∧
      ((d.update c i raw).cnt[i] ≠ c.dbThresh →
        (d.update c i raw).validated[i] = d.validated[i] ∧ (d.update c i raw).initialized[i] = d.initialized[i]) := by
  obtain ⟨hchanged, -⟩ | ⟨-, hlt, h⟩ | ⟨-, hle, h⟩ := d.update_cases c i raw
  · exact absurd hraw hchanged
  · simp only [h, vector_get_set, if_true, and_self, implies_true, and_true]
    exact ⟨(Nat.min_eq_left hlt.le).symm, fun hcnt => absurd hcnt hlt.ne⟩
  · simp only [h, Db.Committed, vector_get_set, if_true, and_self, implies_true, true_and]
    exact ⟨(Nat.min_eq_right hle).symm, fun hcnt => absurd rfl hcnt⟩

/-- A settled value changes only in its own input's step, on an unchanged read that brings the count to `DB_THRESH`. -/
theorem Db.commits_of_validated_ne {d : Db} {c : Cfg} {i j : InputIdx} {raw : Bool}
    (hne : (d.update c i raw).validated[j] ≠ d.validated[j]) :
    i = j ∧ raw = d.lastRaw[i] ∧ (d.update c i raw).cnt[i] = c.dbThresh ∧ (d.update c i raw).Committed i raw := by
  by_cases hj : j = i
  · subst hj
    by_cases hraw : raw = d.lastRaw[j]
    · obtain ⟨-, hcommit, hkeep⟩ := Db.update_of_unchanged (c := c) hraw
      by_cases hcnt : (d.update c j raw).cnt[j] = c.dbThresh
      · exact ⟨rfl, hraw, hcnt, hcommit hcnt⟩
      · obtain ⟨hvalidated, -⟩ := hkeep hcnt
        exact absurd hvalidated hne
    · obtain ⟨-, hvalidated, -⟩ := Db.update_of_changed (c := c) hraw
      exact absurd hvalidated hne
  · obtain ⟨-, hvalidated, -⟩ := Db.update_of_ne (d := d) (c := c) (raw := raw) hj
    exact absurd hvalidated hne

/-! The operations. -/

/-- Settles O27: an absent input is left alone; for a present one the elements of `i` are a changed or an unchanged read's,
and those of another input stay. -/
theorem dbUpdateCountsAndCommits : Obligations.DbUpdateCountsAndCommits := by
  refine ⟨by simp only [decodeAndEncodeAgree _ _]; decide, fun i s hctx => ?_⟩
  rcases Nat.lt_or_ge i.val s.cfg.numInputs with hi | hi
  case inl =>
    refine ⟨_, exec_dbUpdate hctx hi, by simp, by simp, by simp, by simp, by simp [OutsideKept], by simp [EndedWith],
      by simp [NoCommand, OutPort.rest], by simp [OutPort.rest], fun habsent => by omega, fun _ => ?_⟩
    exact ⟨fun j hj => Db.update_of_ne hj, Db.lastRaw_update _ _ _ _, Db.update_of_changed, Db.update_of_unchanged⟩
  case inr =>
    obtain ⟨hexec, -⟩ := exec_absentInput hctx hi
    obtain ⟨helements, houtside, hended, hcommand, hack⟩ := answeredOnly_drive s 0
    obtain ⟨hclk, hflt, hdb, hev, hctl⟩ := State.elements_eq_iff.1 helements
    exact ⟨_, hexec, hclk, hflt, hev, hctl, houtside, hended, hcommand, hack, fun _ => hdb, fun hpresent => by omega⟩

/-- Settles O30: only a debounce step of a present input writes the unit. -/
theorem validatedChangesOnlyOnCommit : Obligations.ValidatedChangesOnlyOnCommit := by
  intro op s t j hexec hne
  obtain ⟨u, hw, helements⟩ := exec_written hexec
  obtain ⟨-, -, hdb, -, -⟩ := State.elements_eq_iff.1 helements
  rw [hdb] at hne ⊢
  cases hw with
  | db k hk =>
    obtain ⟨rfl, hraw, hcnt, hvalidated, hinit⟩ := Db.commits_of_validated_ne hne
    exact ⟨rfl, hk, hraw, hcnt, hvalidated, hinit⟩
  | _ => exact absurd rfl hne

theorem bit_getState (d : Db) (c : Cfg) (i : InputIdx) :
    bit (d.getState c i) = if d.initialized[i] = true then bit d.validated[i] else bit c.dbDefault[i] :=
  apply_ite bit _ _ _

/-- Settles O28. -/
theorem dbGetStateReportsTheSettledValue : Obligations.DbGetStateReportsTheSettledValue := by
  refine ⟨by simp only [decodeAndEncodeAgree _ _]; decide, fun i s hctx => ?_⟩
  rcases Nat.lt_or_ge i.val s.cfg.numInputs with hi | hi
  case inl =>
    refine ⟨_, exec_dbGetState hctx hi, fun habsent => by omega, fun _ => ?_⟩
    rw [bit_getState]
    exact answeredOnly_drive s _
  case inr =>
    obtain ⟨-, hexec, -⟩ := exec_absentInput hctx hi
    exact ⟨_, hexec, fun _ => answeredOnly_drive s 0, fun hpresent => by omega⟩

/-! A held raw value (42_debounce.md R153(a)). -/

/-- After a first read of `raw`, `k` more have found it unchanged: it is committed, or they have all been counted. -/
def Db.HeldFor (d : Db) (c : Cfg) (i : InputIdx) (raw : Bool) (k : Nat) : Prop :=
  d.lastRaw[i] = raw ∧ (d.Committed i raw ∨ (k ≤ d.cnt[i] ∧ d.cnt[i] < c.dbThresh))

/-- `DB_THRESH` unchanged reads are too many to be only counted. -/
theorem Db.HeldFor.committed {d : Db} {c : Cfg} {i : InputIdx} {raw : Bool} (h : d.HeldFor c i raw c.dbThresh) :
    d.Committed i raw := by
  obtain ⟨-, hcommitted | ⟨hle, hlt⟩⟩ := h
  · exact hcommitted
  · omega

/-- One read of `raw`, whatever was there before it. -/
theorem Db.heldFor_update_zero {d : Db} {c : Cfg} {i : InputIdx} {raw : Bool} (hthresh : 0 < c.dbThresh) :
    (d.update c i raw).HeldFor c i raw 0 := by
  refine ⟨Db.lastRaw_update _ _ _ _, ?_⟩
  by_cases hraw : raw = d.lastRaw[i]
  · obtain ⟨hcnt, hcommit, -⟩ := Db.update_of_unchanged (c := c) hraw
    rcases Nat.lt_or_ge (d.cnt[i] + 1) c.dbThresh with hlt | hle
    · exact .inr (by omega)
    · exact .inl (hcommit (by omega))
  · obtain ⟨hcnt, -, -⟩ := Db.update_of_changed (c := c) hraw
    exact .inr (by omega)

/-- One more read of `raw`: it stays committed, it is counted, or the count is full and it is committed now. -/
theorem Db.HeldFor.update {d : Db} {c : Cfg} {i : InputIdx} {raw : Bool} {k : Nat} (h : d.HeldFor c i raw k) :
    (d.update c i raw).HeldFor c i raw (k + 1) := by
  obtain ⟨hlast, hheld⟩ := h
  refine ⟨Db.lastRaw_update _ _ _ _, ?_⟩
  obtain ⟨hcnt, hcommit, hkeep⟩ := Db.update_of_unchanged (c := c) hlast.symm
  by_cases hfull : (d.update c i raw).cnt[i] = c.dbThresh
  · exact .inl (hcommit hfull)
  · obtain ⟨hvalidated, hinit⟩ := hkeep hfull
    rw [Db.Committed, hvalidated, hinit]
    exact hheld.imp_right fun hcounted => by omega

/-- `n` consecutive debounce steps that read the same value. -/
def Db.updates (d : Db) (c : Cfg) (i : InputIdx) (raw : Bool) (n : Nat) : Db := (fun e => e.update c i raw)^[n] d

theorem Db.updates_succ (d : Db) (c : Cfg) (i : InputIdx) (raw : Bool) (n : Nat) :
    d.updates c i raw (n + 1) = (d.update c i raw).updates c i raw n := rfl

/-- From any starting state, `n + 1` reads of `raw` are a first one and `n` more. -/
theorem Db.heldFor_updates {d : Db} {c : Cfg} {i : InputIdx} {raw : Bool} (hthresh : 0 < c.dbThresh) (n : Nat) :
    (d.updates c i raw (n + 1)).HeldFor c i raw n := by
  induction n with
  | zero => exact Db.heldFor_update_zero hthresh
  | succ n ih =>
    rw [Db.updates, Function.iterate_succ_apply']
    exact ih.update

theorem exec_presentDbUpdate {s : State} {pins : InPort} {i : InputIdx} {ps : List InPort}
    (hi : i.val < s.cfg.numInputs) :
    ∃ u, exec (.dbUpdate i) (s.load (pins.present (.dbUpdate i) :: ps)) = .next u ∧ u.cfg = s.cfg ∧
      u.db = s.db.update s.cfg i pins.din[i] :=
  ⟨_, exec_dbUpdate rfl hi, by simp, rfl⟩

/-- A run of `DB.UPDATE` of a present input makes as many debounce steps. -/
theorem core_run_presentDbUpdate (pins : InPort) {i : InputIdx} (n : Nat) :
    ∀ {s : State}, s.cfg.valid = true → i.val < s.cfg.numInputs →
      ∃ t : State, Sys2Proof.core.run n (s.load (List.replicate n (pins.present (.dbUpdate i)))) = .next t ∧
        t.db = s.db.updates s.cfg i pins.din[i] n := by
  induction n with
  | zero => exact fun _ _ => ⟨_, core_run_zero _, rfl⟩
  | succ n ih =>
    intro s hv hi
    obtain ⟨u, hexec, hcfg, hdb⟩ :=
      exec_presentDbUpdate (pins := pins) (ps := List.replicate n (pins.present (.dbUpdate i))) hi
    obtain ⟨t, hrun, ht⟩ := ih (s := u) (hcfg ▸ hv) (hcfg ▸ hi)
    exact ⟨t, (core_run_succ n (step_load_present hv hexec)).trans hrun, by rw [ht, hcfg, hdb, Db.updates_succ]⟩

/-- Settles O29. -/
theorem heldRawValueIsCommitted : Obligations.HeldRawValueIsCommitted := by
  intro s pins i hv hi
  obtain ⟨t, hrun, hdb⟩ := core_run_presentDbUpdate pins (s.cfg.dbThresh + 1) hv hi
  refine ⟨t, hrun, ?_⟩
  rw [hdb]
  exact (Db.heldFor_updates (Cfg.dbThresh_pos hv) s.cfg.dbThresh).committed

end Machine
end Sys2Proof
end

section
/-!
PROOFS. The Input Event Layer (43_input_event.md). The laws of one poll and one consume come first. The laws of R175 rest on
two of them: a poll at the same level changes nothing (R172 corner case 5), and a poll or a consume keeps the account of
events against falls of the level.
-/

namespace Sys2Proof
namespace Machine

/-! One poll (43_input_event.md R172) and one consume (R174). -/

theorem State.level_eq (s : State) (i : InputIdx) :
    s.level i =
      ((if s.db.initialized[i] = true then s.db.validated[i] else s.cfg.dbDefault[i]) ^^ s.cfg.activeLow[i]) := rfl

/-- A second poll at the same level changes nothing (R172 corner case 5). -/
theorem EvState.poll_poll (e : EvState) (l : Bool) : (e.poll l).poll l = e.poll l := by
  cases e <;> cases l <;> rfl

/-- Where no event waits a consume changes nothing. -/
theorem State.consumeEffect_of_ne_released {s : State} {i : InputIdx} (h : s.evState[i] ≠ .released) :
    s.consumeEffect i = s := by
  rw [State.consumeEffect, EvState.afterConsume_eq, if_neg h, vector_set_self]

theorem bit_consumeResult (s : State) (i : InputIdx) :
    bit (s.consumeResult i) = if s.evState[i] = .released then 1 else 0 := by
  unfold State.consumeResult
  cases s.evState[i] <;> rfl

/-! The operations. -/

/-- Settles O32: an absent input is left alone; a present one takes the table's state, and before its first commit its
level is 0. -/
theorem evPollFollowsTheTransitionTable : Obligations.EvPollFollowsTheTransitionTable := by
  refine ⟨by simp only [decodeAndEncodeAgree _ _]; decide, fun i s hctx => ?_⟩
  rcases Nat.lt_or_ge i.val s.cfg.numInputs with hi | hi
  case inl =>
    refine ⟨_, exec_evPoll hctx hi, by simp, by simp, by simp, by simp, by simp [OutsideKept], by simp [EndedWith],
      by simp [NoCommand, OutPort.rest], by simp [OutPort.rest], fun j hj => ?_, fun habsent => by omega, fun _ => ?_,
      fun hvalid hinit hidle => ?_⟩
    · rw [State.drive_evState, vector_get_set, if_neg hj]
    · rw [State.drive_evState, vector_get_set, if_pos rfl, ← State.level_eq s i]
      cases s.evState[i] <;> cases s.level i <;> rfl
    · rw [State.drive_evState, vector_get_set, if_pos rfl, State.level_of_uninitialized hvalid hi hinit, hidle]
      rfl
  case inr =>
    obtain ⟨-, -, hexec, -⟩ := exec_absentInput hctx hi
    obtain ⟨helements, houtside, hended, hcommand, hack⟩ := answeredOnly_drive s 0
    obtain ⟨hclk, hflt, hdb, hev, hctl⟩ := State.elements_eq_iff.1 helements
    exact ⟨_, hexec, hclk, hflt, hdb, hctl, houtside, hended, hcommand, hack, fun _ _ => by rw [hev], fun _ => by rw [hev],
      fun hpresent => by omega, fun _ _ hidle => by rw [hev, hidle]⟩

/-- Settles O33: only an event that waits is taken; without one, and for an absent input, there is only the answer 0. -/
theorem evConsumeTakesTheEvent : Obligations.EvConsumeTakesTheEvent := by
  refine ⟨by simp only [decodeAndEncodeAgree _ _]; decide, fun i s hctx => ?_⟩
  rcases Nat.lt_or_ge i.val s.cfg.numInputs with hi | hi
  case inl =>
    refine ⟨_, exec_evConsume hctx hi, ?_⟩
    rw [bit_consumeResult]
    refine ⟨fun _ hreleased => ?_, fun hkept => ?_⟩
    · rw [if_pos hreleased]
      refine ⟨by simp, by simp, by simp, by simp, by simp [OutsideKept], by simp [EndedWith],
        by simp [NoCommand, OutPort.rest], by simp [OutPort.rest], ?_, fun j hj => ?_⟩
      · rw [State.drive_evState, State.consumeEffect_evState, vector_get_set, if_pos rfl, State.beginOp_evState, hreleased]
        rfl
      · rw [State.drive_evState, State.consumeEffect_evState, vector_get_set, if_neg hj, State.beginOp_evState]
    · have hnone : s.evState[i] ≠ .released := hkept.resolve_left (by omega)
      rw [if_neg hnone, State.consumeEffect_of_ne_released (by rwa [State.beginOp_evState])]
      exact answeredOnly_drive s 0
  case inr =>
    obtain ⟨-, -, -, hexec⟩ := exec_absentInput hctx hi
    exact ⟨_, hexec, fun hpresent => by omega, fun _ => answeredOnly_drive s 0⟩

/-! One press (43_input_event.md R175(a)). -/

theorem EvState.foldl_poll_replicate_of_fixed {e : EvState} {l : Bool} (h : e.poll l = e) (n : Nat) :
    (List.replicate n l).foldl EvState.poll e = e := by
  induction n with
  | zero => rfl
  | succ n ih => rw [List.replicate_succ, List.foldl_cons, h, ih]

theorem EvState.foldl_poll_idle_false (n : Nat) : (List.replicate n false).foldl EvState.poll .idle = .idle :=
  EvState.foldl_poll_replicate_of_fixed rfl n

/-- Any number of polls at one level, at least one, do what one of them does. -/
theorem EvState.foldl_poll_replicate_succ (e : EvState) (l : Bool) (n : Nat) :
    (List.replicate (n + 1) l).foldl EvState.poll e = e.poll l := by
  rw [List.replicate_succ, List.foldl_cons, EvState.foldl_poll_replicate_of_fixed (e.poll_poll l)]

/-- A level that is 0 and then 1, with no fall, leaves no event. -/
theorem EvState.consumed_foldl_poll_rise (d e : Nat) :
    EvState.consumed ((List.replicate d false ++ List.replicate e true).foldl EvState.poll .idle) = false := by
  rw [List.foldl_append, EvState.foldl_poll_idle_false]
  cases e with
  | zero => rfl
  | succ e => rw [EvState.foldl_poll_replicate_succ]; rfl

/-- Settles O34: the idle polls change nothing, and each of the two edges is made by the first poll that sees it. -/
theorem onePressGivesOneEvent : Obligations.OnePressGivesOneEvent := by
  refine fun a b c d e => ⟨?_, rfl, EvState.consumed_foldl_poll_rise d e⟩
  rw [List.foldl_append, List.foldl_append, EvState.foldl_poll_idle_false,
    EvState.foldl_poll_replicate_succ, EvState.foldl_poll_replicate_succ]
  rfl

/-! Events against falls of the level (43_input_event.md R175(c)). -/

/-- The events reported and the one that waits have each had a fall of their own, and a held input's level was last seen
at 1, so that its release will be one more. -/
def EvState.Accounted (e : EvState) (last : Bool) (falls events : Nat) : Prop :=
  (e = .held → last = true) ∧ events + bit e.consumed ≤ falls

theorem EvState.Accounted.poll {e : EvState} {last : Bool} {falls events : Nat} (h : e.Accounted last falls events)
    (l : Bool) : (e.poll l).Accounted l (falls + if last && !l then 1 else 0) events := by
  obtain ⟨hheld, hle⟩ := h
  cases e with
  | idle =>
    cases l with
    | false => exact ⟨nofun, Nat.le_add_right_of_le hle⟩
    | true => exact ⟨fun _ => rfl, Nat.le_add_right_of_le hle⟩
  | held =>
    cases l with
    | false => rw [hheld rfl]; exact ⟨nofun, Nat.succ_le_succ hle⟩
    | true => exact ⟨fun _ => rfl, Nat.le_add_right_of_le hle⟩
  | released => exact ⟨nofun, Nat.le_add_right_of_le hle⟩

theorem EvState.Accounted.consume {e : EvState} {last : Bool} {falls events : Nat} (h : e.Accounted last falls events) :
    e.afterConsume.Accounted last falls (events + if e.consumed then 1 else 0) := by
  obtain ⟨hheld, hle⟩ := h
  cases e with
  | idle => exact ⟨nofun, hle⟩
  | held => exact ⟨hheld, hle⟩
  | released => exact ⟨nofun, hle⟩

/-- Settles O35: the account holds at first, and every poll and every consume keeps it. -/
theorem eventsNeverExceedCompletedPresses : Obligations.EventsNeverExceedCompletedPresses := by
  intro acts final
  have haccount : final.1.Accounted final.2.1 final.2.2.1 final.2.2.2 := by
    refine List.foldlRecOn acts _ (motive := fun x : EvState × Bool × Nat × Nat => x.1.Accounted x.2.1 x.2.2.1 x.2.2.2)
      ⟨nofun, le_rfl⟩ fun x hx act _ => ?_
    cases act with
    | some l => exact hx.poll l
    | none => exact hx.consume
  obtain ⟨-, hle⟩ := haccount
  exact Nat.le_of_add_right_le hle

end Machine
end Sys2Proof
end

section
/-!
PROOFS. The Control State Machine (44_control.md). The laws come first: the FSM case by case (R196 to R199), the gate by
what `CURRENT_CONTROL` was and is (R200), and `CTL.STEP` as an equation for each of its four outcomes (R202), in which only
the unit CTL, the event states and the command differ from the state before. Every statement about one step reads its outcome's
equation; those about runs then go by induction on their length.
-/

namespace Sys2Proof

/-- The dwell is shorter than the period of the clock (00_scope.md R9(e)). -/
theorem Cfg.dwellTicks_lt {c : Cfg} (hc : c.valid = true) : c.dwellTicks < 2 ^ c.tickW := by
  obtain ⟨-, -, -, -, hdurations, -⟩ := c.valid_iff.1 hc
  obtain ⟨hdwell, -⟩ := c.durationsOk_iff.1 hdurations
  exact hdwell.trans_le (Nat.pow_le_pow_right (by decide) (Nat.sub_le _ _))

namespace Machine

/-! The FSM (44_control.md R196 to R199). -/

section
variable {c : Cfg} {start t m : Nat}

theorem fsm_idle_of_high_lt (h : c.high < m) : fsm c .idle start t m = ⟨.turningOn, start, .start⟩ := if_pos h

theorem fsm_idle_of_le_high (h : m ≤ c.high) : fsm c .idle start t m = ⟨.idle, start, .stop⟩ := if_neg h.not_gt

theorem fsm_turningOn_of_lt_low (h : m < c.low) : fsm c .turningOn start t m = ⟨.dwell, t, .start⟩ := if_pos h

theorem fsm_turningOn_of_low_le (h : c.low ≤ m) : fsm c .turningOn start t m = ⟨.turningOn, start, .start⟩ :=
  if_neg h.not_gt

theorem fsm_dwell_of_low_lt (h : c.low < m) : fsm c .dwell start t m = ⟨.turningOn, start, .none⟩ := if_pos h

theorem fsm_dwell_of_elapsed (h : m ≤ c.low) (helapsed : c.dwellTicks ≤ ticksSince c t start) :
    fsm c .dwell start t m = ⟨.turningOff, t, .stop⟩ :=
  (if_neg h.not_gt).trans (if_pos (hasElapsedAt_iff_ticksSince.2 helapsed))

theorem fsm_dwell_of_waiting (h : m ≤ c.low) (hwaiting : ticksSince c t start < c.dwellTicks) :
    fsm c .dwell start t m = ⟨.dwell, start, .none⟩ :=
  (if_neg h.not_gt).trans (if_neg (mt hasElapsedAt_iff_ticksSince.1 hwaiting.not_ge))

theorem fsm_turningOff_of_high_lt (h : c.high < m) : fsm c .turningOff start t m = ⟨.turningOn, start, .none⟩ := if_pos h

theorem fsm_turningOff_of_elapsed (h : m ≤ c.high) (helapsed : c.offTicks ≤ ticksSince c t start) :
    fsm c .turningOff start t m = ⟨.idle, start, .none⟩ :=
  (if_neg h.not_gt).trans (if_pos (hasElapsedAt_iff_ticksSince.2 helapsed))

theorem fsm_turningOff_of_waiting (h : m ≤ c.high) (hwaiting : ticksSince c t start < c.offTicks) :
    fsm c .turningOff start t m = ⟨.turningOff, start, if c.offResend then .stop else .none⟩ :=
  (if_neg h.not_gt).trans (if_neg (mt hasElapsedAt_iff_ticksSince.1 hwaiting.not_ge))

theorem fsm_idle_dwellStart : (fsm c .idle start t m).dwellStart = start := by
  rcases Nat.lt_or_ge c.high m with h | h
  · rw [fsm_idle_of_high_lt h]
  · rw [fsm_idle_of_le_high h]

theorem fsm_turningOn_cmd : (fsm c .turningOn start t m).cmd = .start := by
  rcases Nat.lt_or_ge m c.low with h | h
  · rw [fsm_turningOn_of_lt_low h]
  · rw [fsm_turningOn_of_low_le h]

theorem fsm_turningOff_dwellStart : (fsm c .turningOff start t m).dwellStart = start := by
  rcases Nat.lt_or_ge c.high m with h | h
  · rw [fsm_turningOff_of_high_lt h]
  · rcases lt_or_ge (ticksSince c t start) c.offTicks with he | he
    · rw [fsm_turningOff_of_waiting h he]
    · rw [fsm_turningOff_of_elapsed h he]

end

/-! The gate after the manual toggle (44_control.md R195, R200). -/

/-- The command by `CURRENT_CONTROL` after the step and before it; switched off in this step, it was on before. -/
theorem gate_after_toggle (press old socket : Bool) (cmd : Cmd) :
    gate (currentControlNext press old) (toggledOff press old) socket cmd =
      if currentControlNext press old = true then cmd
      else if old = true then (if socket = true then .stop else .start)
      else (if socket = true then .start else .stop) := by
  cases press <;> cases old <;> rfl

theorem EvState.consumed_of_ne_released {e : EvState} (h : e ≠ .released) : e.consumed = false :=
  Bool.eq_false_of_not_eq_true (mt (EvState.consumed_iff e).1 h)

/-! `CTL.STEP`: what every outcome has in common. -/

/-- The state in which `CTL.STEP` leaves the event states `e`, the unit CTL at `k` but for `SOCKET_REQ`, and the command `c`. -/
def State.ctlAnswer (s : State) (e : Vector EvState 4) (k : Ctl) (c : Cmd) : State :=
  (({ s.beginOp with evState := e, ctl := k } : State).emit c).drive 0

section
variable (s : State) (e : Vector EvState 4) (k : Ctl) (c : Cmd)

@[simp] theorem State.ctlAnswer_cfg : (s.ctlAnswer e k c).cfg = s.cfg := by simp [State.ctlAnswer]
@[simp] theorem State.ctlAnswer_clk : (s.ctlAnswer e k c).clk = s.clk := by simp [State.ctlAnswer]
@[simp] theorem State.ctlAnswer_flt : (s.ctlAnswer e k c).flt = s.flt := by simp [State.ctlAnswer]
@[simp] theorem State.ctlAnswer_db : (s.ctlAnswer e k c).db = s.db := by simp [State.ctlAnswer]
@[simp] theorem State.ctlAnswer_evState : (s.ctlAnswer e k c).evState = e := rfl
@[simp] theorem State.ctlAnswer_ctl :
    (s.ctlAnswer e k c).ctl = { k with socketReq := socketReqNext c k.socketReq } := rfl

theorem State.ctlAnswer_outsideKept : OutsideKept s (s.ctlAnswer e k c) := by simp [OutsideKept, State.ctlAnswer]

theorem State.ctlAnswer_endedWith : EndedWith s (s.ctlAnswer e k c) 0 := by simp [EndedWith, State.ctlAnswer]

theorem State.ctlAnswer_emitted : Emitted s (s.ctlAnswer e k c) c := by simp [Emitted, State.ctlAnswer]

theorem State.ctlAnswer_smpAck : (s.ctlAnswer e k c).out.smpAck = false := rfl

end

/-! `CTL.STEP`: the outcomes that reach the FSM. -/

/-- What the FSM yields in this step. -/
def State.fsmResult (s : State) : FsmResult :=
  fsm s.cfg s.ctl.cstate s.ctl.dwellStart s.clk.tick (s.flt.magnitude s.cfg)

/-- The state that a step which reaches the FSM leaves, with the event of the button consumed: `k` holds what the parts
before the FSM have made of the unit CTL, and `press` says whether a completed press counts in this step. -/
def State.fsmAnswer (s : State) (k : Ctl) (press : Bool) : State :=
  s.ctlAnswer (s.consumeEffect 0).evState
    { k with
      currentControl := currentControlNext press s.ctl.currentControl
      cstate := s.fsmResult.cstate
      dwellStart := s.fsmResult.dwellStart }
    (gate (currentControlNext press s.ctl.currentControl) (toggledOff press s.ctl.currentControl) s.ctl.socketReq
      s.fsmResult.cmd)

section
variable (s : State) (k : Ctl) (press : Bool)

@[simp] theorem State.fsmAnswer_cfg : (s.fsmAnswer k press).cfg = s.cfg := s.ctlAnswer_cfg _ _ _
@[simp] theorem State.fsmAnswer_clk : (s.fsmAnswer k press).clk = s.clk := s.ctlAnswer_clk _ _ _
@[simp] theorem State.fsmAnswer_flt : (s.fsmAnswer k press).flt = s.flt := s.ctlAnswer_flt _ _ _
@[simp] theorem State.fsmAnswer_db : (s.fsmAnswer k press).db = s.db := s.ctlAnswer_db _ _ _
@[simp] theorem State.fsmAnswer_ctl_cstate : (s.fsmAnswer k press).ctl.cstate = s.fsmResult.cstate := rfl
@[simp] theorem State.fsmAnswer_ctl_dwellStart : (s.fsmAnswer k press).ctl.dwellStart = s.fsmResult.dwellStart := rfl
@[simp] theorem State.fsmAnswer_ctl_currentControl :
    (s.fsmAnswer k press).ctl.currentControl = currentControlNext press s.ctl.currentControl := rfl
@[simp] theorem State.fsmAnswer_ctl_diagMode : (s.fsmAnswer k press).ctl.diagMode = k.diagMode := rfl
@[simp] theorem State.fsmAnswer_ctl_guardDone : (s.fsmAnswer k press).ctl.guardDone = k.guardDone := rfl
@[simp] theorem State.fsmAnswer_ctl_btnUpTick : (s.fsmAnswer k press).ctl.btnUpTick = k.btnUpTick := rfl

/-- The event of the button is taken, and no other input's. -/
theorem State.fsmAnswer_evState (j : InputIdx) :
    (s.fsmAnswer k press).evState[j] = if j = 0 then s.evState[(0 : InputIdx)].afterConsume else s.evState[j] :=
  vector_get_set s.evState 0 j _

theorem State.fsmAnswer_emitted :
    Emitted s (s.fsmAnswer k press)
      (if (s.fsmAnswer k press).ctl.currentControl = true then s.fsmResult.cmd
       else if s.ctl.currentControl = true then (if s.ctl.socketReq = true then .stop else .start)
       else (if s.ctl.socketReq = true then .start else .stop)) := by
  rw [State.fsmAnswer_ctl_currentControl, ← gate_after_toggle]
  exact s.ctlAnswer_emitted _ _ _

end

/-! `CTL.STEP`: an equation for each outcome (44_control.md R202). -/

section
variable {s : State} (hctx : s.port.ctx = false)
include hctx

/-- Diagnostic mode is active (44_control.md R192). -/
theorem exec_ctlStep_diag (hdiag : s.ctl.diagMode = true) :
    exec .ctlStep s = .next (s.ctlAnswer s.evState s.ctl (.value (s.flt.magnitude s.cfg))) := by
  refine execCtlStep_eq_next.2 ⟨hctx, .inl ⟨hdiag, ?_⟩⟩
  rw [State.ctlAnswer, ← State.beginOp_evState s, ← State.beginOp_ctl s]

variable (hdiag : s.ctl.diagMode = false)
include hdiag

/-- The guard is active (44_control.md R193). -/
theorem exec_ctlStep_guarded (hguard : GuardActive s) :
    exec .ctlStep s = .next (s.fsmAnswer { s.ctl with btnUpTick := s.clk.tick } false) := by
  have hin : s.beginOp.inGuard s.clk.tick = true := (s.beginOp_inGuard _).trans ((guardActive_iff s).1 hguard)
  refine execCtlStep_eq_next.2 ⟨hctx, .inr (.inl ⟨hdiag, hin, ?_⟩)⟩
  simp [State.guardedStep, State.control, State.fsmAnswer, State.ctlAnswer, State.fsmResult]

variable (hguard : ¬GuardActive s)
include hguard

theorem exec_ctlStep_openStep :
    exec .ctlStep s = .next ((s.beginOp.openStep s.clk.tick (s.flt.magnitude s.cfg)).drive 0) := by
  have hout : s.beginOp.inGuard s.clk.tick = false :=
    (s.beginOp_inGuard _).trans (Bool.eq_false_of_not_eq_true (mt (guardActive_iff s).2 hguard))
  exact execCtlStep_eq_next.2 ⟨hctx, .inr (.inr ⟨hdiag, hout, rfl⟩)⟩

/-- The button has been held long enough (44_control.md R194). -/
theorem exec_ctlStep_held (hheld : HeldLong s) :
    exec .ctlStep s =
      .next (s.ctlAnswer s.evState { s.ctl with guardDone := true, diagMode := true } (.value (s.flt.magnitude s.cfg))) := by
  have hlong : s.holdElapsed s.clk.tick = true := (heldLong_iff s).1 hheld
  rw [exec_ctlStep_openStep hctx hdiag hguard]
  simp only [State.openStep, State.endGuard_holdElapsed, State.beginOp_holdElapsed, hlong, if_true]
  simp [State.enterDiag, State.endGuard, State.ctlAnswer]

/-- The guard is over and the button not held long enough (44_control.md R194, R195). -/
theorem exec_ctlStep_open (hheld : ¬HeldLong s) :
    exec .ctlStep s =
      .next (s.fsmAnswer
        { s.ctl with guardDone := true, btnUpTick := if s.level 0 = true then s.ctl.btnUpTick else s.clk.tick }
        s.evState[(0 : InputIdx)].consumed) := by
  have hshort : s.holdElapsed s.clk.tick = false := Bool.eq_false_of_not_eq_true (mt (heldLong_iff s).2 hheld)
  rw [exec_ctlStep_openStep hctx hdiag hguard]
  simp only [State.openStep, State.endGuard_holdElapsed, State.beginOp_holdElapsed, hshort, State.endGuard_level,
    State.beginOp_level]
  cases s.level 0 <;>
    simp [State.control, State.fsmAnswer, State.ctlAnswer, State.fsmResult, State.endGuard, State.consumeResult]

end

/-- A step that reaches the FSM, in the guard or after it. -/
theorem exec_ctlStep_fsmRuns {s : State} (hctx : s.port.ctx = false) (hruns : FsmRuns s) :
    ∃ k press, exec .ctlStep s = .next (s.fsmAnswer k press) := by
  obtain ⟨hdiag, hreached⟩ := hruns
  by_cases hguard : GuardActive s
  · exact ⟨_, _, exec_ctlStep_guarded hctx hdiag hguard⟩
  · exact ⟨_, _, exec_ctlStep_open hctx hdiag hguard (hreached.resolve_left hguard)⟩

/-- Every step ends in the form that the outcomes have in common, and only its command decides `SOCKET_REQ`. -/
theorem exec_ctlStep_ctlAnswer {s : State} (hctx : s.port.ctx = false) :
    ∃ e k c, exec .ctlStep s = .next (s.ctlAnswer e k c) ∧ k.socketReq = s.ctl.socketReq := by
  cases hdiag : s.ctl.diagMode with
  | true => exact ⟨_, _, _, exec_ctlStep_diag hctx hdiag, rfl⟩
  | false =>
    by_cases hguard : GuardActive s
    · exact ⟨_, _, _, exec_ctlStep_guarded hctx hdiag hguard, rfl⟩
    · by_cases hheld : HeldLong s
      · exact ⟨_, _, _, exec_ctlStep_held hctx hdiag hguard hheld, rfl⟩
      · exact ⟨_, _, _, exec_ctlStep_open hctx hdiag hguard hheld, rfl⟩

/-! One `CTL.STEP`. -/

/-- Settles O36: the outcome in diagnostic mode changes nothing but the command. -/
theorem ctlStepInDiagnosticModeEmitsTheMagnitude : Obligations.CtlStepInDiagnosticModeEmitsTheMagnitude := by
  intro s hctx hdiag
  exact ⟨_, exec_ctlStep_diag hctx hdiag, by simp [State.elements, socketReqNext], s.ctlAnswer_outsideKept _ _ _,
    s.ctlAnswer_endedWith _ _ _, s.ctlAnswer_emitted _ _ _, s.ctlAnswer_smpAck _ _ _⟩

/-- Settles O45: `SOCKET_REQ` is a case split over the command emitted. -/
theorem ctlStepAlwaysEmitsOneCommand : Obligations.CtlStepAlwaysEmitsOneCommand := by
  intro s hctx
  obtain ⟨e, k, c, hexec, hsocket⟩ := exec_ctlStep_ctlAnswer hctx
  refine ⟨_, c, hexec, s.ctlAnswer_emitted _ _ _, s.ctlAnswer_endedWith _ _ _, ?_⟩
  rw [State.ctlAnswer_ctl, hsocket]
  cases c <;> simp [socketReqNext]

/-- Settles O37: the frame is that of every outcome, and of the guarded one come the discarded event and the modes. -/
theorem ctlStepDuringTheGuardDiscardsTheButton : Obligations.CtlStepDuringTheGuardDiscardsTheButton := by
  intro s hctx hdiag
  obtain ⟨e, k, c, hexec, -⟩ := exec_ctlStep_ctlAnswer hctx
  refine ⟨_, hexec, by simp, by simp, by simp, s.ctlAnswer_outsideKept _ _ _, s.ctlAnswer_endedWith _ _ _,
    s.ctlAnswer_smpAck _ _ _, fun hguard => ?_, fun hguard => ?_⟩
  · have ⟨hopen, _⟩ := hguard
    rw [exec_ctlStep_guarded hctx hdiag hguard] at hexec
    rw [← Host.Outcome.next.inj hexec]
    refine ⟨hopen, rfl, rfl, hdiag, ?_, fun j hj => ?_⟩
    · rw [State.fsmAnswer_evState, if_pos rfl, EvState.afterConsume_eq]
    · rw [State.fsmAnswer_evState, if_neg hj]
  · by_cases hheld : HeldLong s
    · rw [exec_ctlStep_held hctx hdiag hguard hheld] at hexec
      rw [← Host.Outcome.next.inj hexec]
      rfl
    · rw [exec_ctlStep_open hctx hdiag hguard hheld] at hexec
      rw [← Host.Outcome.next.inj hexec]
      rfl

/-- Settles O38: the two outcomes after the guard, with `BTN_UP_TICK` by the level in the one that goes on. -/
theorem ctlStepHoldDetector : Obligations.CtlStepHoldDetector := by
  intro s hctx hdiag hguard
  by_cases hheld : HeldLong s
  case pos =>
    have ⟨hpressed, _⟩ := hheld
    refine ⟨_, exec_ctlStep_held hctx hdiag hguard hheld, fun hup => ?_, fun _ hshort => absurd hheld hshort,
      fun _ => ⟨rfl, rfl, s.ctlAnswer_emitted _ _ _⟩⟩
    exact absurd (hup.symm.trans hpressed) Bool.false_ne_true
  case neg =>
    refine ⟨_, exec_ctlStep_open hctx hdiag hguard hheld, fun hup => ?_, fun hpressed _ => ?_,
      fun hlong => absurd hlong hheld⟩
    · exact ⟨by simp [hup], hdiag⟩
    · exact ⟨by simp [hpressed], hdiag⟩

/-- Settles O39: a completed press is an event that waits, and this outcome takes it. -/
theorem ctlStepTogglesOnACompletedPress : Obligations.CtlStepTogglesOnACompletedPress := by
  intro s hctx hdiag hguard hheld
  refine ⟨_, exec_ctlStep_open hctx hdiag hguard hheld, fun hreleased => ?_, fun hnone => ?_, fun j hj => ?_⟩
  · rw [State.fsmAnswer_evState, hreleased]
    exact ⟨rfl, rfl⟩
  · rw [State.fsmAnswer_evState, if_pos rfl, EvState.afterConsume_eq, if_neg hnone,
      EvState.consumed_of_ne_released hnone]
    exact ⟨rfl, rfl⟩
  · rw [State.fsmAnswer_evState, if_neg hj]

/-- Settles O44: the outcomes that reach the FSM, with the gate by `CURRENT_CONTROL` after and before the step. -/
theorem gateSelectsTheCommand : Obligations.GateSelectsTheCommand := by
  intro s hctx hruns
  obtain ⟨k, press, hexec⟩ := exec_ctlStep_fsmRuns hctx hruns
  have hemitted := s.fsmAnswer_emitted k press
  refine ⟨_, s.fsmResult, hexec, rfl, rfl, rfl, fun hon => ?_, fun hoff hold => ?_, fun hoff hold => ?_⟩
  · rwa [if_pos hon] at hemitted
  · rwa [if_neg (Bool.not_eq_true _ ▸ hoff), if_pos hold] at hemitted
  · rwa [if_neg (Bool.not_eq_true _ ▸ hoff), if_neg (Bool.not_eq_true _ ▸ hold)] at hemitted

/-! The FSM's states (44_control.md R196 to R199): each case is the FSM's equation for it. -/

/-- A step that reaches the FSM takes from it `CSTATE`, `DWELL_START` and, with current control on, the command. -/
theorem exec_ctlStep_takes_fsm {s : State} {state : CState} (hctx : s.port.ctx = false) (hruns : FsmRuns s)
    (hstate : s.ctl.cstate = state) :
    ∃ t, exec .ctlStep s = .next t ∧
      ∀ {f}, fsm s.cfg state s.ctl.dwellStart s.clk.tick (s.flt.magnitude s.cfg) = f →
        t.ctl.cstate = f.cstate ∧ t.ctl.dwellStart = f.dwellStart ∧
          (t.ctl.currentControl = true → Emitted s t f.cmd) := by
  obtain ⟨t, f, hexec, hf, hcstate, hdwell, hcmd, -⟩ := gateSelectsTheCommand s hctx hruns
  rw [hstate] at hf
  exact ⟨t, hexec, fun h => h ▸ hf ▸ ⟨hcstate, hdwell, hcmd⟩⟩

/-- Settles O40. -/
theorem fsmIdleStartsAboveHigh : Obligations.FsmIdleStartsAboveHigh := by
  intro s hctx hruns hstate
  obtain ⟨t, hexec, hfsm⟩ := exec_ctlStep_takes_fsm hctx hruns hstate
  refine ⟨t, hexec, ?_, fun hhigh => ?_, fun hle => ?_⟩
  · obtain ⟨-, hdwell, -⟩ := hfsm rfl
    rw [hdwell, fsm_idle_dwellStart]
  · obtain ⟨hcstate, -, hcmd⟩ := hfsm (fsm_idle_of_high_lt hhigh)
    exact ⟨hcstate, hcmd⟩
  · obtain ⟨hcstate, -, hcmd⟩ := hfsm (fsm_idle_of_le_high hle)
    exact ⟨hcstate, hcmd⟩

/-- Settles O41. -/
theorem fsmTurningOnDwellsBelowLow : Obligations.FsmTurningOnDwellsBelowLow := by
  intro s hctx hruns hstate
  obtain ⟨t, hexec, hfsm⟩ := exec_ctlStep_takes_fsm hctx hruns hstate
  refine ⟨t, hexec, ?_, fun hlow => ?_, fun hge => ?_⟩
  · obtain ⟨-, -, hcmd⟩ := hfsm rfl
    rwa [fsm_turningOn_cmd] at hcmd
  · obtain ⟨hcstate, hdwell, -⟩ := hfsm (fsm_turningOn_of_lt_low hlow)
    exact ⟨hcstate, hdwell⟩
  · obtain ⟨hcstate, hdwell, -⟩ := hfsm (fsm_turningOn_of_low_le hge)
    exact ⟨hcstate, hdwell⟩

/-- Settles O42. -/
theorem fsmDwellResumesOrStops : Obligations.FsmDwellResumesOrStops := by
  intro s hctx hruns hstate
  obtain ⟨t, hexec, hfsm⟩ := exec_ctlStep_takes_fsm hctx hruns hstate
  exact ⟨t, hexec, fun hlow => hfsm (fsm_dwell_of_low_lt hlow),
    fun hle helapsed => hfsm (fsm_dwell_of_elapsed hle helapsed),
    fun hle hwaiting => hfsm (fsm_dwell_of_waiting hle hwaiting)⟩

/-- Settles O43. -/
theorem fsmTurningOffResumesOrRests : Obligations.FsmTurningOffResumesOrRests := by
  intro s hctx hruns hstate
  obtain ⟨t, hexec, hfsm⟩ := exec_ctlStep_takes_fsm hctx hruns hstate
  refine ⟨t, hexec, ?_, fun hhigh => ?_, fun hle helapsed => ?_, fun hle hwaiting => ?_⟩
  · obtain ⟨-, hdwell, -⟩ := hfsm rfl
    rw [hdwell, fsm_turningOff_dwellStart]
  · obtain ⟨hcstate, -, hcmd⟩ := hfsm (fsm_turningOff_of_high_lt hhigh)
    exact ⟨hcstate, hcmd⟩
  · obtain ⟨hcstate, -, hcmd⟩ := hfsm (fsm_turningOff_of_elapsed hle helapsed)
    exact ⟨hcstate, hcmd⟩
  · obtain ⟨hcstate, -, hcmd⟩ := hfsm (fsm_turningOff_of_waiting hle hwaiting)
    exact ⟨hcstate, hcmd⟩

/-! What changes the control unit, over every operation and every step. -/

/-- A guarded step leaves the modes and does not end the guard (44_control.md R193). -/
theorem modes_of_guarded {s t : State} (hexec : exec .ctlStep s = .next t) (hdiag : s.ctl.diagMode = false)
    (hguard : GuardActive s) :
    t.ctl.currentControl = s.ctl.currentControl ∧ t.ctl.diagMode = s.ctl.diagMode ∧
      t.ctl.guardDone = s.ctl.guardDone := by
  rw [exec_ctlStep_guarded (tickContext_of_exec hexec) hdiag hguard] at hexec
  obtain rfl := Host.Outcome.next.inj hexec
  exact ⟨rfl, rfl, rfl⟩

theorem ctl_of_ne_ctlStep {i : Instr} {s t : State} (hexec : exec i s = .next t) (hi : i ≠ .ctlStep) : t.ctl = s.ctl := by
  obtain ⟨-, -, -, -, hctl⟩ := eachElementHasOneOwner i s t hexec
  exact hctl hi

/-- Settles O48: every operation but `CTL.STEP` leaves the whole unit. -/
theorem guardProtectsTheModes : Obligations.GuardProtectsTheModes := by
  intro i s t hexec hdiag hguard
  have ⟨hopen, _⟩ := hguard
  rw [← hopen]
  by_cases hi : i = .ctlStep
  · subst hi
    exact modes_of_guarded hexec hdiag hguard
  · rw [ctl_of_ne_ctlStep hexec hi]
    exact ⟨rfl, rfl, rfl⟩

/-- The FSM leaves a state only by one of six transitions (44_control.md R196 to R199). -/
theorem fsm_transitions {c : Cfg} {state : CState} {start t m : Nat} {f : FsmResult} (hf : fsm c state start t m = f)
    (hne : f.cstate ≠ state) :
    (state = .idle ∧ f.cstate = .turningOn ∧ c.high < m) ∨
    (state = .turningOn ∧ f.cstate = .dwell ∧ m < c.low ∧ f.dwellStart = t) ∨
    (state = .dwell ∧ f.cstate = .turningOn ∧ c.low < m) ∨
    (state = .dwell ∧ f.cstate = .turningOff ∧ m ≤ c.low ∧ c.dwellTicks ≤ ticksSince c t start) ∨
    (state = .turningOff ∧ f.cstate = .turningOn ∧ c.high < m) ∨
    (state = .turningOff ∧ f.cstate = .idle ∧ m ≤ c.high ∧ c.offTicks ≤ ticksSince c t start) := by
  subst hf
  cases state with
  | idle =>
    rcases Nat.lt_or_ge c.high m with hm | hm
    · simp [fsm_idle_of_high_lt hm, hm]
    · simp [fsm_idle_of_le_high hm] at hne
  | turningOn =>
    rcases Nat.lt_or_ge m c.low with hm | hm
    · simp [fsm_turningOn_of_lt_low hm, hm]
    · simp [fsm_turningOn_of_low_le hm] at hne
  | dwell =>
    rcases Nat.lt_or_ge c.low m with hm | hm
    · simp [fsm_dwell_of_low_lt hm, hm]
    · rcases lt_or_ge (ticksSince c t start) c.dwellTicks with helapsed | helapsed
      · simp [fsm_dwell_of_waiting hm helapsed] at hne
      · simp [fsm_dwell_of_elapsed hm helapsed, hm, helapsed]
  | turningOff =>
    rcases Nat.lt_or_ge c.high m with hm | hm
    · simp [fsm_turningOff_of_high_lt hm, hm]
    · rcases lt_or_ge (ticksSince c t start) c.offTicks with helapsed | helapsed
      · simp [fsm_turningOff_of_waiting hm helapsed] at hne
      · simp [fsm_turningOff_of_elapsed hm helapsed, hm, helapsed]

/-- A `CTL.STEP` that changes `CSTATE` has reached the FSM. -/
theorem fsmRuns_of_cstate_ne {s t : State} (hexec : exec .ctlStep s = .next t) (hne : t.ctl.cstate ≠ s.ctl.cstate) :
    FsmRuns s := by
  have hctx := tickContext_of_exec hexec
  cases hdiag : s.ctl.diagMode with
  | true =>
    rw [exec_ctlStep_diag hctx hdiag] at hexec
    obtain rfl := Host.Outcome.next.inj hexec
    exact absurd rfl hne
  | false =>
    refine ⟨hdiag, or_iff_not_imp_left.2 fun hguard hheld => ?_⟩
    rw [exec_ctlStep_held hctx hdiag hguard hheld] at hexec
    obtain rfl := Host.Outcome.next.inj hexec
    exact hne rfl

/-- Settles O46: the step has executed a `CTL.STEP` that reaches the FSM, and the six are the FSM's transitions. -/
theorem controlStateLeavesOnlyByItsEvents : Obligations.ControlStateLeavesOnlyByItsEvents := by
  intro s t hstep hrst hne
  obtain ⟨-, ⟨hr, -⟩ | ⟨-, -, rfl⟩ | ⟨-, hop, i, u, hdecode, hexec, rfl⟩⟩ := step_eq_next.1 hstep
  · exact absurd (hrst.symm.trans hr) Bool.false_ne_true
  · exact absurd (congrArg Ctl.cstate s.idleOp_ctl) hne
  · rw [State.advance_ctl] at hne ⊢
    obtain rfl : i = .ctlStep := by
      by_contra hi
      exact hne (congrArg Ctl.cstate (ctl_of_ne_ctlStep hexec hi))
    have hruns := fsmRuns_of_cstate_ne hexec hne
    have ⟨hdiag, _⟩ := hruns
    obtain ⟨v, hexec', hfsm⟩ := exec_ctlStep_takes_fsm (tickContext_of_exec hexec) hruns rfl
    obtain rfl := Host.Outcome.next.inj (hexec.symm.trans hexec')
    obtain ⟨hcstate, hdwell, -⟩ := hfsm rfl
    rw [hcstate] at hne
    rw [hcstate, hdwell]
    exact ⟨hop, hdecode, hdiag, fsm_transitions rfl hne⟩

/-! Diagnostic mode (44_control.md R203(d)). -/

/-- An operation that only answers emits no command. -/
theorem noCommand_of_drive {i : Instr} {s t u : State} {v : Nat} (hexec : exec i s = .next t)
    (hdrive : exec i s = .next (u.drive v)) (hu : NoCommand s u) : NoCommand s t := by
  obtain rfl : u.drive v = t := Host.Outcome.next.inj (hdrive.symm.trans hexec)
  exact hu

theorem noCommand_beginOp (s : State) : NoCommand s s.beginOp := by simp [NoCommand, OutPort.rest]

/-- A format I operation emits no command on an absent input, so it emits none when it emits none on a present one. -/
theorem noCommand_of_onInput {s t : State} {i : InputIdx} {body : State → State}
    (h : s.loopOp (fun u => u.onInput i body) = .next t) (hbody : NoCommand s (body s.beginOp)) : NoCommand s t := by
  obtain ⟨-, rfl⟩ | ⟨-, rfl⟩ := State.loopOp_onInput_cases h
  · exact hbody
  · exact noCommand_beginOp s

/-- The command port is `CTL.STEP`'s alone (10_state.md R49). -/
theorem noCommand_of_ne_ctlStep {i : Instr} {s t : State} (hexec : exec i s = .next t) (hi : i ≠ .ctlStep) :
    NoCommand s t := by
  have hctx := tickContext_of_exec hexec
  have hbegin := noCommand_beginOp s
  cases i with
  | sysWait =>
    rw [exec_sysWait hctx] at hexec
    obtain rfl := Host.Outcome.next.inj hexec
    split <;> exact hbegin
  | clkTick => exact noCommand_of_drive hexec (exec_clkTick hctx) hbegin
  | clkNow => exact noCommand_of_drive hexec (exec_clkNow hctx) hbegin
  | clkElapsed => exact noCommand_of_drive hexec (exec_clkElapsed hctx) hbegin
  | clkHasElapsed => exact noCommand_of_drive hexec (exec_clkHasElapsed hctx) hbegin
  | fltSample =>
    cases hr : s.port.smpReady with
    | true => exact noCommand_of_drive hexec (exec_fltSample_ready hctx hr) hbegin
    | false => exact noCommand_of_drive hexec (exec_fltSample_idle hctx hr) hbegin
  | fltReading => exact noCommand_of_drive hexec (exec_fltReading hctx) hbegin
  | fltMagnitude => exact noCommand_of_drive hexec (exec_fltMagnitude hctx) hbegin
  | dbUpdate k => exact noCommand_of_onInput hexec hbegin
  | dbGetState k => exact noCommand_of_onInput hexec hbegin
  | evPoll k => exact noCommand_of_onInput hexec hbegin
  | evConsume k => exact noCommand_of_onInput hexec hbegin
  | ctlStep => exact absurd rfl hi

/-- From `s` to `t` the control unit is as it was and every command emitted is a `VALUE`. -/
def ValuesOnly (s t : State) : Prop :=
  t.ctl = s.ctl ∧
  ∃ cs : List Cmd, t.record.commands = s.record.commands ++ cs ∧ ∀ c ∈ cs, ∃ v, c = .value v

theorem ValuesOnly.of_no_command {s t : State} (hctl : t.ctl = s.ctl)
    (hcommands : t.record.commands = s.record.commands) : ValuesOnly s t :=
  ⟨hctl, [], by rw [hcommands, List.append_nil], nofun⟩

theorem ValuesOnly.trans {s t u : State} (hst : ValuesOnly s t) (htu : ValuesOnly t u) : ValuesOnly s u := by
  obtain ⟨hctl, cs, hcs, hvalues⟩ := hst
  obtain ⟨hctl', cs', hcs', hvalues'⟩ := htu
  exact ⟨hctl'.trans hctl, cs ++ cs', by rw [hcs', hcs, List.append_assoc],
    List.forall_mem_append.2 ⟨hvalues, hvalues'⟩⟩

theorem exec_valuesOnly {i : Instr} {s t : State} (hdiag : s.ctl.diagMode = true) (hexec : exec i s = .next t) :
    ValuesOnly s t := by
  by_cases hi : i = .ctlStep
  · subst hi
    rw [exec_ctlStep_diag (tickContext_of_exec hexec) hdiag] at hexec
    obtain rfl := Host.Outcome.next.inj hexec
    obtain ⟨-, hcommands⟩ := s.ctlAnswer_emitted s.evState s.ctl (.value (s.flt.magnitude s.cfg))
    exact ⟨rfl, _, hcommands, by simp⟩
  · obtain ⟨-, hcommands⟩ := noCommand_of_ne_ctlStep hexec hi
    exact .of_no_command (ctl_of_ne_ctlStep hexec hi) hcommands

/-- Nothing that is or will be presented asserts `RST`. -/
def State.NeverReset (s : State) : Prop := ∀ p ∈ s.port :: s.pending, p.rst = false

theorem State.NeverReset.advance {s u : State} (hs : s.NeverReset) (hkept : OutsideKept s u) : u.advance.NeverReset := by
  obtain ⟨-, -, hpending⟩ := hkept
  obtain ⟨-, hs⟩ := List.forall_mem_cons.1 hs
  rw [State.NeverReset, State.advance_port, State.advance_pending, hpending]
  cases hps : s.pending with
  | nil => simp [InPort.idle]
  | cons p ps => rwa [hps] at hs

/-- One step in diagnostic mode, without reset. -/
theorem step_valuesOnly {s t : State} (hdiag : s.ctl.diagMode = true) (hs : s.NeverReset) (hstep : step s = .next t) :
    t.NeverReset ∧ ValuesOnly s t := by
  have hrst : s.port.rst = false := hs s.port List.mem_cons_self
  obtain ⟨-, ⟨hr, -⟩ | ⟨-, -, rfl⟩ | ⟨-, -, i, u, -, hexec, rfl⟩⟩ := step_eq_next.1 hstep
  · exact absurd (hrst.symm.trans hr) Bool.false_ne_true
  · exact ⟨hs.advance s.idleOp_outsideKept, .of_no_command s.idleOp_ctl s.idleOp_commands⟩
  · have hvalues := exec_valuesOnly hdiag hexec
    exact ⟨hs.advance (exec_outsideKept hexec), hvalues⟩

/-- Settles O49, by induction on the length of the run over `step_valuesOnly`. -/
theorem diagnosticModeIsIrreversible : Obligations.DiagnosticModeIsIrreversible := by
  intro n
  induction n with
  | zero =>
    intro s t _ _ hrun
    obtain rfl : s = t := Host.Outcome.next.inj hrun
    exact ValuesOnly.of_no_command rfl rfl
  | succ n ih =>
    intro s t hdiag hs hrun
    obtain ⟨u, hstep, hrun⟩ := core_run_succ_eq_next hrun
    obtain ⟨hu, hsu⟩ := step_valuesOnly hdiag hs hstep
    have ⟨hctl, _⟩ := hsu
    exact hsu.trans (ih u t (hctl ▸ hdiag) hu hrun)

/-! The dwell, with one `CTL.STEP` per tick (44_control.md R198). -/

/-- The FSM alone decides: the guard is over, diagnostic mode is off, current control is on and nothing happens at the
button; and it finds the magnitude below `LOW`. -/
structure State.Fading (s : State) : Prop where
  valid : s.cfg.valid = true
  low : s.flt.magnitude s.cfg < s.cfg.low
  currentControl : s.ctl.currentControl = true
  diagMode : s.ctl.diagMode = false
  guardDone : s.ctl.guardDone = true
  level : s.level 0 = false
  noEvent : s.evState[(0 : InputIdx)] ≠ .released

theorem State.Fading.load {s : State} (hs : s.Fading) (ps : List InPort) : (s.load ps).Fading :=
  ⟨hs.valid, hs.low, hs.currentControl, hs.diagMode, hs.guardDone, hs.level, hs.noEvent⟩

theorem State.Fading.not_guardActive {s : State} (hs : s.Fading) : ¬GuardActive s := by
  rintro ⟨hopen, -⟩
  exact Bool.false_ne_true (hopen.symm.trans hs.guardDone)

theorem State.Fading.not_heldLong {s : State} (hs : s.Fading) : ¬HeldLong s := by
  rintro ⟨hpressed, -⟩
  exact Bool.false_ne_true (hs.level.symm.trans hpressed)

/-- `u` is `s` with what one evaluation of the FSM makes of it, at the counter value `tick`. -/
structure State.FsmStepped (s : State) (tick : Nat) (u : State) : Prop where
  fading : u.Fading
  cfg : u.cfg = s.cfg
  tick : u.clk.tick = tick
  cstate : u.ctl.cstate = s.fsmResult.cstate
  dwellStart : u.ctl.dwellStart = s.fsmResult.dwellStart
  socketReq : u.ctl.socketReq = socketReqNext s.fsmResult.cmd s.ctl.socketReq

theorem exec_ctlStep_fading {s : State} (hctx : s.port.ctx = false) (hs : s.Fading) :
    ∃ u, exec .ctlStep s = .next u ∧ s.FsmStepped s.clk.tick u := by
  have hexec := exec_ctlStep_open hctx hs.diagMode hs.not_guardActive hs.not_heldLong
  rw [EvState.consumed_of_ne_released hs.noEvent] at hexec
  refine ⟨_, hexec, ⟨by simpa using hs.valid, by simpa using hs.low, hs.currentControl, hs.diagMode, rfl, ?_, ?_⟩,
    by simp, by simp, rfl, rfl, ?_⟩
  · rw [State.level, State.fsmAnswer_db, State.fsmAnswer_cfg]
    exact hs.level
  · rw [State.fsmAnswer_evState, if_pos rfl, EvState.afterConsume_eq, if_neg hs.noEvent]
    exact hs.noEvent
  · simp [State.fsmAnswer, gate, currentControlNext, hs.currentControl]

theorem exec_clkTick_fading {s : State} (hctx : s.port.ctx = true) (hs : s.Fading) :
    ∃ u, exec .clkTick s = .next u ∧ u.Fading ∧ u.cfg = s.cfg ∧ u.clk.tick = addW s.cfg.tickW s.clk.tick 1 ∧
      u.ctl = s.ctl := by
  refine ⟨_, exec_clkTick hctx, ⟨?_, ?_, ?_, ?_, ?_, ?_, ?_⟩, by simp, rfl, by simp⟩
  · simpa using hs.valid
  · simpa using hs.low
  · simpa using hs.currentControl
  · simpa using hs.diagMode
  · simpa using hs.guardDone
  · simpa [State.level] using hs.level
  · simpa using hs.noEvent

/-- The presentations of a `CTL.STEP` and a tick. -/
def InPort.stepAndTick (pins : InPort) : List InPort := [pins.present .ctlStep, pins.present .clkTick]

/-- A run that begins with a `CTL.STEP` and a tick. -/
theorem core_run_stepAndTick (pins : InPort) {s : State} (hs : s.Fading) (n : Nat) (ps : List InPort) :
    ∃ u, s.FsmStepped (addW s.cfg.tickW s.clk.tick 1) u ∧
      Sys2Proof.core.run (n + 2) (s.load (pins.stepAndTick ++ ps)) = Sys2Proof.core.run n (u.load ps) := by
  obtain ⟨v, hstep, hv⟩ := exec_ctlStep_fading (s := s.load (pins.stepAndTick ++ ps)) rfl (hs.load _)
  obtain ⟨u, htick, hu, hcfg, hclk, hctl⟩ :=
    exec_clkTick_fading (s := v.load (pins.present .clkTick :: ps)) rfl (hv.fading.load _)
  refine ⟨u, ⟨hu, hcfg.trans hv.cfg, ?_, ?_, ?_, ?_⟩, ?_⟩
  · rw [hclk, State.load_cfg, State.load_clk, hv.cfg, hv.tick]
    rfl
  · rw [hctl]; exact hv.cstate
  · rw [hctl]; exact hv.dwellStart
  · rw [hctl]; exact hv.socketReq
  · exact (core_run_succ _ (step_load_present hs.valid hstep)).trans
      (core_run_succ _ (step_load_present hv.fading.valid htick))

/-- With the parameters `c`, the FSM has been in the dwell for `k` ticks since the counter stood at `start`, and the
socket is still on. -/
structure State.DwellingFor (s : State) (c : Cfg) (start k : Nat) : Prop where
  fading : s.Fading
  cfg : s.cfg = c
  tick : s.clk.tick = addW c.tickW start k
  cstate : s.ctl.cstate = .dwell
  dwellStart : s.ctl.dwellStart = start
  socketReq : s.ctl.socketReq = true

/-- From `ST_TURNING_ON` the FSM sends `START` and enters the dwell (44_control.md R197). -/
theorem State.FsmStepped.enters_dwell {s u : State} (hs : s.Fading) (hstate : s.ctl.cstate = .turningOn)
    (h : s.FsmStepped (addW s.cfg.tickW s.clk.tick 1) u) : u.DwellingFor s.cfg s.clk.tick 1 := by
  have hfsm : s.fsmResult = ⟨.dwell, s.clk.tick, .start⟩ := by
    rw [State.fsmResult, hstate, fsm_turningOn_of_lt_low hs.low]
  obtain ⟨hfading, hcfg, htick, hcstate, hdwell, hsocket⟩ := h
  rw [hfsm] at hcstate hdwell hsocket
  exact ⟨hfading, hcfg, htick, hcstate, hdwell, hsocket⟩

theorem ticksSince_addW {c : Cfg} {start k : Nat} (hk : k < 2 ^ c.tickW) :
    ticksSince c (addW c.tickW start k) start = k := by
  rw [← elapsedAt_eq_ticksSince, elapsedAt_addW, Nat.mod_eq_of_lt hk]

section
variable {s u : State} {c : Cfg} {start k : Nat} (hs : s.DwellingFor c start k)
  (h : s.FsmStepped (addW s.cfg.tickW s.clk.tick 1) u)
include hs h

/-- Before `DWELL_TICKS` have passed the dwell goes on (44_control.md R198). -/
theorem State.DwellingFor.waits (hk : k < c.dwellTicks) : u.DwellingFor c start (k + 1) := by
  obtain ⟨hfading, rfl, htick, hstate, hstart, hon⟩ := hs
  have hfsm : s.fsmResult = ⟨.dwell, start, .none⟩ := by
    rw [State.fsmResult, hstate, hstart, htick]
    refine fsm_dwell_of_waiting hfading.low.le ?_
    rw [ticksSince_addW (hk.trans (Cfg.dwellTicks_lt hfading.valid))]
    exact_mod_cast hk
  obtain ⟨hfading', hcfg, htick', hcstate, hdwell, hsocket⟩ := h
  rw [hfsm] at hcstate hdwell hsocket
  refine ⟨hfading', hcfg, ?_, hcstate, hdwell, hsocket.trans hon⟩
  rw [htick', htick, addW, addW, addW, Nat.mod_add_mod, Nat.add_assoc]

/-- When they have passed the FSM sends `STOP` (44_control.md R198). -/
theorem State.DwellingFor.stops (hk : k = c.dwellTicks) : u.ctl.cstate = .turningOff ∧ u.ctl.socketReq = false := by
  obtain ⟨hfading, rfl, htick, hstate, hstart, -⟩ := hs
  have hfsm : s.fsmResult = ⟨.turningOff, s.clk.tick, .stop⟩ := by
    rw [State.fsmResult, hstate, hstart]
    refine fsm_dwell_of_elapsed hfading.low.le ?_
    rw [htick, hk, ticksSince_addW (Cfg.dwellTicks_lt hfading.valid)]
  rw [h.cstate, h.socketReq, hfsm]
  exact ⟨rfl, rfl⟩

end

/-- The dwell over `n` more ticks, in a run that goes on from there. -/
theorem core_run_waits (pins : InPort) {c : Cfg} {start : Nat} (r : Nat) (ps : List InPort) (n : Nat) :
    ∀ {s : State} {k : Nat}, s.DwellingFor c start k → k + n ≤ c.dwellTicks →
      ∃ t : State, t.DwellingFor c start (k + n) ∧
        Sys2Proof.core.run (2 * n + r) (s.load ((List.replicate n pins.stepAndTick).flatten ++ ps)) =
          Sys2Proof.core.run r (t.load ps) := by
  induction n with
  | zero => exact fun hs _ => ⟨_, hs, by simp⟩
  | succ n ih =>
    intro s k hs hle
    obtain ⟨u, hu, hpair⟩ := core_run_stepAndTick pins hs.fading (2 * n + r)
      ((List.replicate n pins.stepAndTick).flatten ++ ps)
    obtain ⟨t, ht, hrun⟩ := ih (hs.waits hu (by omega)) (by omega)
    refine ⟨t, by rwa [Nat.add_right_comm] at ht, ?_⟩
    rw [← hrun, ← hpair, List.replicate_succ, List.flatten_cons, List.append_assoc]
    congr 1
    omega

/-- From `ST_TURNING_ON`, the run of `k` pairs that ends in the dwell, in a run that goes on from there. -/
theorem core_run_dwells (pins : InPort) {s : State} {k : Nat} (r : Nat) (ps : List InPort) (hs : s.Fading)
    (hstate : s.ctl.cstate = .turningOn) (hpos : 1 ≤ k) (hk : k ≤ s.cfg.dwellTicks) :
    ∃ t : State, t.DwellingFor s.cfg s.clk.tick k ∧
      Sys2Proof.core.run (2 * k + r) (s.load ((List.replicate k pins.stepAndTick).flatten ++ ps)) =
        Sys2Proof.core.run r (t.load ps) := by
  obtain ⟨n, rfl⟩ := Nat.exists_eq_add_of_le hpos
  obtain ⟨u, hu, hpair⟩ := core_run_stepAndTick pins hs (2 * n + r) ((List.replicate n pins.stepAndTick).flatten ++ ps)
  obtain ⟨t, ht, hrun⟩ := core_run_waits pins r ps n (hu.enters_dwell hs hstate) hk
  refine ⟨t, ht, ?_⟩
  rw [← hrun, ← hpair, Nat.add_comm 1 n, List.replicate_succ, List.flatten_cons, List.append_assoc]
  congr 1
  omega

/-- Settles O47: `DWELL_TICKS` pairs end in the dwell's last tick, and one more finds the time passed. -/
theorem dwellEndsExactlyOnTime : Obligations.DwellEndsExactlyOnTime := by
  intro s pins k hvalid _ hstate hlow hcontrol hdiag hguard hlevel hevent hpos hk
  have hs : s.Fading := ⟨hvalid, hlow, hcontrol, hdiag, hguard, hlevel, hevent⟩
  obtain ⟨t, ht, hrun⟩ := core_run_dwells pins 0 [] hs hstate hpos hk
  obtain ⟨v, hv, hrunDwell⟩ := core_run_dwells pins 2 (pins.stepAndTick ++ []) hs hstate (hpos.trans hk) le_rfl
  obtain ⟨u, hu, hrunStop⟩ := core_run_stepAndTick pins hv.fading 0 []
  have hstops := hv.stops hu rfl
  rw [List.append_nil] at hrun hrunDwell hrunStop
  refine ⟨t.load [], u.load [], hrun, ht.cstate, ht.dwellStart, ht.socketReq, ?_, hstops⟩
  rw [List.replicate_succ', List.flatten_concat, Nat.mul_succ]
  exact hrunDwell.trans hrunStop

end Machine
end Sys2Proof
end

section
/-!
PROOFS. The system unit and the pseudo-operations (45_system.md). The laws come first: an idle step that wakes nothing, a run
that takes the first of a list of presentations, and what the clock is after a number of ticks. Then two machines that differ in
the clock alone: an operation of the sequencer other than `CTL.STEP` reads the clock for its answer only, so it keeps them so,
shown along the parts its meaning is composed of.
-/

namespace Sys2Proof
namespace Machine

/-! `SYS.WAIT` (45_system.md R241). -/

theorem exec_sysWait_awake {s : State} (hctx : s.port.ctx = false) (hwake : s.port.wake = true) :
    exec .sysWait s = .next (s.beginOp.drive 0) := by
  rw [exec_sysWait hctx, if_pos hwake]

theorem exec_sysWait_asleep {s : State} (hctx : s.port.ctx = false) (hwake : s.port.wake = false) :
    exec .sysWait s = .next { s.beginOp with hold := true } := by
  rw [exec_sysWait hctx, if_neg (by simp [hwake])]

/-- Settles O11. -/
theorem sysWaitCompletesOnWake : Obligations.SysWaitCompletesOnWake :=
  fun s hctx hwake => ⟨_, exec_sysWait_awake hctx hwake, answeredOnly_drive s 0⟩

/-- Settles O12: the operation has begun, so an earlier hold is over, and its own hold is all that is left of it. -/
theorem sysWaitHoldsWithoutWake : Obligations.SysWaitHoldsWithoutWake := by
  intro s hctx hwake
  refine ⟨_, exec_sysWait_asleep hctx hwake, ?_, s.beginOp_outsideKept, rfl, rfl, noCommand_beginOp s, rfl⟩
  simp [State.elements]

/-! A hold that nothing ends (45_system.md R241, corner case (b)). -/

/-- An idle step without `WAKE` only puts the outputs at rest. -/
theorem State.idleOp_of_asleep {s : State} (hwake : s.port.wake = false) : s.idleOp = { s with out := .rest } := by
  simp [State.idleOp, hwake]

theorem State.idleOp_elements (s : State) : s.idleOp.elements = s.elements := by simp [State.elements]

/-- The presentation asserts neither `RST` nor an operation nor `WAKE`. -/
def InPort.Quiet (p : InPort) : Prop := p.rst = false ∧ p.opValid = false ∧ p.wake = false

/-- Past the last presentation the port is as quiet as before (log 9). -/
theorem InPort.quiet_headD {ps : List InPort} (h : ∀ p ∈ ps, p.Quiet) :
    ∀ p ∈ ps.headD .idle :: ps.tail, p.Quiet := by
  cases ps with
  | nil => simp [InPort.Quiet, InPort.idle]
  | cons p ps => exact h

/-- The hold of `s` goes on in `t`, where nothing has been touched and nothing that is or will be presented ends it. -/
structure State.HeldSince (s t : State) : Prop where
  valid : t.cfg.valid = true
  hold : t.hold = true
  quiet : ∀ p ∈ t.port :: t.pending, p.Quiet
  elements : t.elements = s.elements
  record : t.record = s.record

theorem State.HeldSince.step {s t : State} (h : s.HeldSince t) :
    ∃ u, Machine.step t = .next u ∧ s.HeldSince u := by
  obtain ⟨hport, hpending⟩ := List.forall_mem_cons.1 h.quiet
  obtain ⟨hrst, hop, hwake⟩ := hport
  refine ⟨_, step_idle h.valid hrst hop, ?_⟩
  rw [State.idleOp_of_asleep hwake]
  exact ⟨h.valid, h.hold, InPort.quiet_headD hpending, h.elements, h.record⟩

/-- Settles O13: a hold that nothing wakes is kept by every step, so by runs of any length; and an idle step is
`State.idleOp`, whose hold and results follow the old hold and `WAKE`. -/
theorem holdLastsWhileNothingWakes : Obligations.HoldLastsWhileNothingWakes := by
  refine ⟨fun n s hvalid hhold hquiet => ?_, fun s hvalid hrst hop => ?_⟩
  · obtain ⟨t, hrun, ht⟩ := core_run_of_step (fun _ => State.HeldSince.step) n s ⟨hvalid, hhold, hquiet, rfl, rfl⟩
    exact ⟨t, hrun, ht.hold, ht.elements, ht.record⟩
  · refine ⟨_, step_idle hvalid hrst hop, s.idleOp_elements, s.idleOp_cfg, rfl, s.idleOp_commands, by simp, by simp,
      fun hhold hwake => ?_, fun hkept => ?_⟩
    · simp [hhold, hwake]
    · rcases hkept with h | h <;> simp [h]

/-! Runs of presented operations. -/

/-- A run that begins with an operation presented by its agent executes it and goes on with the rest of the presentations. -/
theorem core_run_present {s : State} (i : Instr) (p : InPort) (ps : List InPort) (hv : s.cfg.valid = true) :
    ∃ u : State, exec i (s.load (p.present i :: ps)) = .next u ∧ u.cfg = s.cfg ∧
      ∀ n, Sys2Proof.core.run (n + 1) (s.load (p.present i :: ps)) = Sys2Proof.core.run n (u.load ps) := by
  obtain ⟨u, hexec, hcfg, -, -⟩ := exec_completes (i := i) (s := s.load (p.present i :: ps)) rfl
  exact ⟨u, hexec, hcfg, fun n => core_run_succ n (step_load_present hv hexec)⟩

/-! `TICKS n` (45_system.md R243). -/

/-- The clock `n` ticks later. -/
def Clk.afterTicks (k : Clk) (c : Cfg) (n : Nat) : Clk := ⟨addW c.tickW k.tick n, k.tickPin ^^ decide (n % 2 = 1)⟩

theorem Clk.afterTicks_zero {k : Clk} {c : Cfg} (hk : k.inv c) : k.afterTicks c 0 = k := by
  simp [Clk.afterTicks, addW, Nat.mod_eq_of_lt hk]

theorem Clk.afterTicks_advance (k : Clk) (c : Cfg) (n : Nat) :
    (k.advance c).afterTicks c n = k.afterTicks c (n + 1) := by
  have htick : addW c.tickW (addW c.tickW k.tick 1) n = addW c.tickW k.tick (n + 1) := by
    rw [addW, addW, addW, Nat.mod_add_mod, Nat.add_assoc, Nat.add_comm 1 n]
  have hpin : (!k.tickPin ^^ decide (n % 2 = 1)) = (k.tickPin ^^ decide ((n + 1) % 2 = 1)) := by
    rcases Nat.mod_two_eq_zero_or_one n with h | h <;> simp [Nat.add_mod, h]
  simp only [Clk.afterTicks, Clk.advance, tickPinNext, htick, hpin]

theorem clk_of_exec_clkTick {s t : State} (hexec : exec .clkTick s = .next t) : t.clk = s.clk.advance s.cfg := by
  rw [exec_clkTick (tickContext_of_exec hexec)] at hexec
  obtain rfl := Host.Outcome.next.inj hexec
  rfl

/-- A run that begins with `n` ticks, with the clock in range. -/
theorem core_run_ticks (pins : InPort) (r : Nat) (ps : List InPort) (n : Nat) :
    ∀ {s : State}, s.cfg.valid = true → s.clk.inv s.cfg →
      ∃ t : State, t.cfg = s.cfg ∧ t.clk = s.clk.afterTicks s.cfg n ∧
        Sys2Proof.core.run (n + r) (s.load (List.replicate n (pins.present .clkTick) ++ ps)) =
          Sys2Proof.core.run r (t.load ps) := by
  induction n with
  | zero => exact fun _ hclk => ⟨_, rfl, (Clk.afterTicks_zero hclk).symm, by simp⟩
  | succ n ih =>
    intro s hv _
    obtain ⟨u, hexec, hcfg, hrun⟩ :=
      core_run_present .clkTick pins (List.replicate n (pins.present .clkTick) ++ ps) hv
    have hclk : u.clk = s.clk.advance s.cfg := (clk_of_exec_clkTick hexec :)
    obtain ⟨t, hcfg', hclk', hrun'⟩ := ih (s := u) (hcfg ▸ hv) (by rw [hclk, hcfg]; exact addW_lt _ _ _)
    refine ⟨t, hcfg'.trans hcfg, by rw [hclk', hclk, hcfg, Clk.afterTicks_advance], ?_⟩
    rw [← hrun', ← hrun, Nat.add_right_comm]
    rfl

/-- Settles O20: the run of ticks alone, and the same run followed by the query, whose answer is `elapsedAt_addW`. -/
theorem elapsedCountsTheTicksRun : Obligations.ElapsedCountsTheTicksRun := by
  intro s pins n hv hclk
  obtain ⟨t, -, hclk_t, hrun⟩ := core_run_ticks pins 0 [] n hv hclk
  obtain ⟨v, hcfg, hclk_v, hrunTicks⟩ :=
    core_run_ticks pins 1 [({ pins with a := s.clk.tick } : InPort).present .clkElapsed] n hv hclk
  obtain ⟨u, hexec, -, hrunQuery⟩ := core_run_present .clkElapsed { pins with a := s.clk.tick } [] (s := v) (hcfg ▸ hv)
  rw [List.append_nil] at hrun
  refine ⟨t.load [], u.load [], hrun, by rw [State.load_clk, hclk_t]; rfl, by rw [State.load_clk, hclk_t]; rfl,
    hrunTicks.trans (hrunQuery 0), ?_⟩
  rw [exec_clkElapsed rfl, State.busA_of_lt (by rw [State.load_cfg, hcfg]; exact hclk), State.load_cfg, State.load_clk, hclk_v,
    hcfg] at hexec
  obtain rfl := Host.Outcome.next.inj hexec
  exact elapsedAt_addW _ _ _

/-! Two machines that differ in the clock (45_system.md R242). -/

/-- The same parameters, presentation at the port and elements but for the clock; what is still to come, the hold, the
outputs and the record may differ too. -/
structure SameButClock (s s' : State) : Prop where
  cfg : s'.cfg = s.cfg
  port : s'.port = s.port
  flt : s'.flt = s.flt
  db : s'.db = s.db
  evState : s'.evState = s.evState
  ctl : s'.ctl = s.ctl

section
variable {s s' : State} (h : SameButClock s s')
include h

theorem SameButClock.load (p : InPort) (ps ps' : List InPort) :
    SameButClock (s.load (p :: ps)) (s'.load (p :: ps')) := ⟨h.cfg, rfl, h.flt, h.db, h.evState, h.ctl⟩

theorem SameButClock.drive (v v' : Nat) : SameButClock (s.drive v) (s'.drive v') :=
  ⟨h.cfg, h.port, h.flt, h.db, h.evState, h.ctl⟩

theorem SameButClock.beginOp : SameButClock s.beginOp s'.beginOp := by
  constructor <;> simp [h.cfg, h.port, h.flt, h.db, h.evState, h.ctl]

theorem SameButClock.level (i : InputIdx) : s'.level i = s.level i := by rw [State.level, State.level, h.db, h.cfg]

/-- An operation of the sequencer keeps them so when its body does. -/
theorem SameButClock.loopOp {t t' : State} {body : State → State} (hexec : s.loopOp body = .next t)
    (hexec' : s'.loopOp body = .next t') (hbody : ∀ {u u'}, SameButClock u u' → SameButClock (body u) (body u')) :
    SameButClock t t' := by
  obtain ⟨-, rfl⟩ := State.loopOp_eq_next.1 hexec
  obtain ⟨-, rfl⟩ := State.loopOp_eq_next.1 hexec'
  exact hbody h.beginOp

/-- A format I operation keeps them so when its meaning on a present input does, for on an absent one it only answers. -/
theorem SameButClock.onInput {i : InputIdx} {body : State → State} (hbody : SameButClock (body s) (body s')) :
    SameButClock (s.onInput i body) (s'.onInput i body) := by
  rw [State.onInput, State.onInput, h.cfg]
  split
  · exact hbody
  · exact h.drive 0 0

/-- `FLT.SAMPLE` consumes the same sample or none. -/
theorem SameButClock.sample :
    SameButClock (if s.pinReady then (({ s with flt := s.flt.ingest s.cfg s.pinRaw }).pulseAck).drive 0 else s.drive 0)
      (if s'.pinReady then (({ s' with flt := s'.flt.ingest s'.cfg s'.pinRaw }).pulseAck).drive 0 else s'.drive 0) := by
  have hready : s'.pinReady = s.pinReady := congrArg InPort.smpReady h.port
  have hraw : s'.pinRaw = s.pinRaw := by rw [State.pinRaw, State.pinRaw, h.port, h.cfg]
  have hflt : s'.flt.ingest s'.cfg s'.pinRaw = s.flt.ingest s.cfg s.pinRaw := by rw [h.flt, h.cfg, hraw]
  rw [hready]
  split
  · exact ⟨h.cfg, h.port, hflt, h.db, h.evState, h.ctl⟩
  · exact h.drive 0 0

/-- Only `CTL.STEP`, the one operation of a pass that uses time, and the tick itself are left out. -/
theorem SameButClock.exec {t t' : State} {i : Instr} (hexec : exec i s = .next t) (hexec' : exec i s' = .next t')
    (hstep : i ≠ .ctlStep) (htick : i ≠ .clkTick) : SameButClock t t' := by
  unfold Machine.exec at hexec hexec'
  cases i with
  | sysWait =>
    refine h.loopOp hexec hexec' fun {u u'} hu => ?_
    have hwake : u'.pinWake = u.pinWake := congrArg InPort.wake hu.port
    rw [hwake]
    split
    · exact hu.drive 0 0
    · exact ⟨hu.cfg, hu.port, hu.flt, hu.db, hu.evState, hu.ctl⟩
  | clkTick => exact absurd rfl htick
  | clkNow => exact h.loopOp hexec hexec' fun hu => hu.drive _ _
  | clkElapsed => exact h.loopOp hexec hexec' fun hu => hu.drive _ _
  | clkHasElapsed => exact h.loopOp hexec hexec' fun hu => hu.drive _ _
  | fltSample => exact h.loopOp hexec hexec' fun hu => hu.sample
  | fltReading => exact h.loopOp hexec hexec' fun hu => hu.drive _ _
  | fltMagnitude => exact h.loopOp hexec hexec' fun hu => hu.drive _ _
  | dbUpdate k =>
    refine h.loopOp hexec hexec' fun {u u'} hu => hu.onInput ⟨hu.cfg, hu.port, hu.flt, ?_, hu.evState, hu.ctl⟩
    have hpin : u'.pinDin k = u.pinDin k := by rw [State.pinDin, State.pinDin, hu.port]
    rw [State.drive_db, State.drive_db, hu.db, hu.cfg, hpin]
  | dbGetState k => exact h.loopOp hexec hexec' fun hu => hu.onInput (hu.drive _ _)
  | evPoll k =>
    refine h.loopOp hexec hexec' fun {u u'} hu => hu.onInput ⟨hu.cfg, hu.port, hu.flt, hu.db, ?_, hu.ctl⟩
    rw [State.drive_evState, State.drive_evState, hu.evState, hu.level]
  | evConsume k =>
    refine h.loopOp hexec hexec' fun {u u'} hu => hu.onInput ⟨hu.cfg, hu.port, hu.flt, hu.db, ?_, hu.ctl⟩
    rw [State.drive_evState, State.drive_evState, State.consumeEffect_evState, State.consumeEffect_evState, hu.evState]
  | ctlStep => exact absurd rfl hstep

end

theorem sameButClock_of_exec_clkTick {s t : State} (hexec : exec .clkTick s = .next t) : SameButClock s t := by
  rw [exec_clkTick (tickContext_of_exec hexec)] at hexec
  obtain rfl := Host.Outcome.next.inj hexec
  constructor <;> simp

theorem clk_of_ne_clkTick {i : Instr} {s t : State} (hexec : exec i s = .next t) (hi : i ≠ .clkTick) : t.clk = s.clk := by
  obtain ⟨hclk, -⟩ := eachElementHasOneOwner i s t hexec
  exact hclk hi

theorem commands_of_ne_ctlStep {i : Instr} {s t : State} (hexec : exec i s = .next t) (hi : i ≠ .ctlStep) :
    t.record.commands = s.record.commands :=
  (noCommand_of_ne_ctlStep hexec hi).2

/-- Settles O58: the clock is advanced once either way; all else the operation leaves as it does without the tick, and the
tick leaves it so. -/
theorem tickCommutesWithAllButCtlStep : Obligations.TickCommutesWithAllButCtlStep := by
  intro i s p q hv hstep htick
  obtain ⟨a, hopFirst, hcfg_a, hrun_a⟩ := core_run_present i p [q.present .clkTick] hv
  obtain ⟨t, htickLast, -, hrun_t⟩ := core_run_present .clkTick q [] (s := a) (hcfg_a ▸ hv)
  obtain ⟨b, htickFirst, hcfg_b, hrun_b⟩ := core_run_present .clkTick q [p.present i] hv
  obtain ⟨u, hopLast, -, hrun_u⟩ := core_run_present i p [] (s := b) (hcfg_b ▸ hv)
  have hticked : SameButClock (s.load [p.present i, q.present .clkTick]) (b.load [p.present i]) :=
    (sameButClock_of_exec_clkTick htickFirst).load _ _ _
  have hop : SameButClock a u := hticked.exec hopFirst hopLast hstep htick
  have ht := sameButClock_of_exec_clkTick htickLast
  refine ⟨t.load [], u.load [], (hrun_a 1).trans (hrun_t 0), (hrun_b 1).trans (hrun_u 0), ?_, ?_⟩
  · refine State.elements_eq_iff.2 ⟨?_, ht.flt.trans hop.flt.symm, ht.db.trans hop.db.symm,
      ht.evState.trans hop.evState.symm, ht.ctl.trans hop.ctl.symm⟩
    calc t.clk = a.clk.advance a.cfg := (clk_of_exec_clkTick htickLast :)
      _ = s.clk.advance s.cfg := by rw [clk_of_ne_clkTick hopFirst htick, hcfg_a]; rfl
      _ = b.clk := (clk_of_exec_clkTick htickFirst).symm
      _ = u.clk := (clk_of_ne_clkTick hopLast htick).symm
  · calc t.record.commands = a.record.commands := (commands_of_ne_ctlStep htickLast (by decide) :)
      _ = s.record.commands := (commands_of_ne_ctlStep hopFirst hstep :)
      _ = b.record.commands := (commands_of_ne_ctlStep htickFirst (by decide)).symm
      _ = u.record.commands := (commands_of_ne_ctlStep hopLast hstep).symm

/-! `PASS` (45_system.md R242). -/

theorem length_inputsBelow : ∀ n ≤ 4, (inputsBelow n).length = n := by decide

/-- The operations of a pass before its `CTL.STEP`. -/
def passInputs (n : Nat) : List Instr := .fltSample :: ((inputsBelow n).map .dbUpdate ++ (inputsBelow n).map .evPoll)

theorem passOps_eq_append (n : Nat) : passOps n = passInputs n ++ [.ctlStep] := by simp [passOps, passInputs]

theorem length_passOps {n : Nat} (hn : n ≤ 4) : (passOps n).length = 2 * n + 2 := by
  simp [passOps, length_inputsBelow n hn]
  omega

theorem ne_of_mem_passInputs {n : Nat} {i : Instr} (hi : i ∈ passInputs n) : i ≠ .ctlStep ∧ i ≠ .clkTick := by
  rw [passInputs, List.mem_cons, List.mem_append, List.mem_map, List.mem_map] at hi
  obtain rfl | ⟨k, -, rfl⟩ | ⟨k, -, rfl⟩ := hi <;> exact ⟨nofun, nofun⟩

/-- A run that begins with operations that are neither `CTL.STEP` nor the tick emits nothing in them and leaves the clock. -/
theorem core_run_timeless (pins : InPort) (r : Nat) (ps : List InPort) {is : List Instr} :
    ∀ {s : State}, s.cfg.valid = true → (∀ i ∈ is, i ≠ .ctlStep ∧ i ≠ .clkTick) →
      ∃ t : State, t.cfg = s.cfg ∧ t.clk = s.clk ∧ t.record.commands = s.record.commands ∧
        Sys2Proof.core.run (is.length + r) (s.load (is.map pins.present ++ ps)) = Sys2Proof.core.run r (t.load ps) := by
  induction is with
  | nil => exact fun _ _ => ⟨_, rfl, rfl, rfl, by simp⟩
  | cons i is ih =>
    intro s hv his
    obtain ⟨⟨hstep, htick⟩, his⟩ := List.forall_mem_cons.1 his
    obtain ⟨u, hexec, hcfg, hrun⟩ := core_run_present i pins (is.map pins.present ++ ps) hv
    obtain ⟨t, hcfg', hclk, hcommands, hrun'⟩ := ih (s := u) (hcfg ▸ hv) his
    refine ⟨t, hcfg'.trans hcfg, hclk.trans (clk_of_ne_clkTick hexec htick :),
      hcommands.trans (commands_of_ne_ctlStep hexec hstep :), ?_⟩
    rw [← hrun', ← hrun, List.length_cons, Nat.add_right_comm]
    rfl

/-- Settles O59: the words are evaluated; the operations on the inputs emit nothing, and the `CTL.STEP` after them one
command (`ctlStepAlwaysEmitsOneCommand`). -/
theorem passExpandsAndCompletes : Obligations.PassExpandsAndCompletes := by
  refine ⟨by decide, by decide, by decide, by decide, fun _ => length_passOps, fun s pins hv => ?_⟩
  rw [passOps_eq_append, List.length_append, List.map_append]
  obtain ⟨t, hcfg, hclk, hcommands, hrun⟩ :=
    core_run_timeless pins 1 [pins.present .ctlStep] hv fun _ => ne_of_mem_passInputs (n := s.cfg.numInputs)
  obtain ⟨u, hexec, -, hrunStep⟩ := core_run_present .ctlStep pins [] (s := t) (hcfg ▸ hv)
  obtain ⟨v, c, hexec', hemitted, -⟩ := ctlStepAlwaysEmitsOneCommand (t.load [pins.present .ctlStep]) rfl
  obtain rfl : v = u := Host.Outcome.next.inj (hexec'.symm.trans hexec)
  obtain ⟨-, hcommand⟩ := hemitted
  refine ⟨v.load [], c, hrun.trans (hrunStep 0), ?_, (clk_of_ne_clkTick hexec (by decide)).trans hclk⟩
  rw [State.load_record, hcommand, State.load_record, hcommands]

end Machine
end Sys2Proof
end

section
/-!
PROOFS. The tick during a hold (60_exceptions.md R256): what `CLK.TICK` does held or not, and what the end of a hold adds to the
record.
-/

namespace Sys2Proof
namespace Machine

/-- An operation that completes during a hold records the wait's 0 before its own result (log 13). -/
theorem EndedWith.results_of_hold {s t : State} {v : Nat} (h : EndedWith s t v) (hhold : s.hold = true) :
    t.record.results = s.record.results ++ [0, v] := by
  obtain ⟨-, hresults, -⟩ := h
  rw [hresults, State.endHold_results, if_pos hhold, List.append_assoc, List.singleton_append]

theorem EndedWith.hold_eq_false {s t : State} {v : Nat} (h : EndedWith s t v) : t.hold = false := by
  obtain ⟨-, -, hhold⟩ := h
  exact hhold

/-- Settles O14: the tick is `CLK.TICK`'s in the tick context, held or not (`clkTickAdvancesTheCounter`); it ends with the
result 0, before which a hold has the wait's recorded (`EndedWith.results_of_hold`). -/
theorem tickEndsHold : Obligations.TickEndsHold := by
  intro s hctx hhold
  obtain ⟨-, hclkTick⟩ := clkTickAdvancesTheCounter
  obtain ⟨hcompletes, -⟩ := hclkTick s
  obtain ⟨t, hexec, htick, hpin, -, -, -, -, -, hended, -⟩ := hcompletes hctx
  exact ⟨t, hexec, hended.hold_eq_false, htick, hpin, hended.results_of_hold hhold⟩

end Machine
end Sys2Proof
end

section
/-!
PROOFS. Reset (70_reset_and_hazards.md R290 to R292) and the pins (R308). After reset each clause is the law of the unit it
speaks of, at the unit's initial value. For the pins, an operation is run with another presentation at the port: every part its
meaning is composed of commutes with the exchange, the parts that sample a pin when that pin agrees.
-/

namespace Sys2Proof
namespace Machine

/-! Reset (70_reset_and_hazards.md R290 to R292). -/

/-- What an input's elements hold after reset (R291). -/
theorem initial_input (i : InputIdx) :
    Db.initial.lastRaw[i] = false ∧ Db.initial.validated[i] = false ∧ Db.initial.initialized[i] = false ∧
      Db.initial.cnt[i] = 0 ∧ (Vector.replicate 4 EvState.idle)[i] = .idle := by
  simp [Db.initial]

/-- Settles O7: a step under `RST` is `State.applyReset` and the next presentation (`step_reset`). -/
theorem resetRestoresEveryElement : Obligations.ResetRestoresEveryElement := by
  intro s hv hr
  exact ⟨_, step_reset hv hr, rfl, rfl, rfl, rfl, rfl, rfl, initial_input, rfl, rfl, rfl, rfl, rfl⟩

/-- Settles O8: `State.reset` is `State.resetOf` at the reference record, whose `BOOT_TICK` is 0 and whose `MID` is 512. -/
theorem resetStateHoldsTheTable : Obligations.ResetStateHoldsTheTable :=
  ⟨rfl, rfl, rfl, rfl, rfl, rfl, initial_input, rfl, rfl, rfl, rfl, rfl, rfl, rfl, rfl, rfl, rfl⟩

theorem ticksSince_self (c : Cfg) (t : Nat) : ticksSince c t t = 0 := by simp [ticksSince]

/-- No tick has passed since `BOOT_TICK`, so a guard of at least one tick is active (44_control.md R193; log 6). -/
theorem guardActive_resetOf {c : Cfg} (hguard : 0 < c.guardTicks) : GuardActive (State.resetOf c) := by
  refine ⟨rfl, ?_⟩
  calc ticksSince c c.bootTick c.bootTick = 0 := ticksSince_self c _
    _ < c.guardTicks := Int.natCast_pos.2 hguard

/-- The reset state with the magnitude not above `HIGH` rests in `ST_IDLE` (44_control.md R196). -/
theorem fsmResult_resetOf {c : Cfg} (hmagnitude : (State.resetOf c).flt.magnitude c ≤ c.high) :
    (State.resetOf c).fsmResult = ⟨.idle, 0, .stop⟩ :=
  fsm_idle_of_le_high hmagnitude

/-- The first `CTL.STEP` after reset, in the guard and with the magnitude not above `HIGH`: the command is all it leaves. -/
theorem exec_ctlStep_resetOf {c : Cfg} (hguard : 0 < c.guardTicks)
    (hmagnitude : (State.resetOf c).flt.magnitude c ≤ c.high) :
    exec .ctlStep (State.resetOf c) =
      .next ((State.resetOf c).ctlAnswer (State.resetOf c).evState (State.resetOf c).ctl .stop) := by
  have hevent : (State.resetOf c).evState[(0 : InputIdx)] ≠ .released := by simp [State.resetOf]
  rw [exec_ctlStep_guarded rfl rfl (guardActive_resetOf hguard), State.fsmAnswer, fsmResult_resetOf hmagnitude,
    State.consumeEffect_of_ne_released hevent]
  rfl

/-- Settles O9: the filter is not full, no input is initialized (`State.level_of_uninitialized`), and the first `CTL.STEP` is
`exec_ctlStep_resetOf`. -/
theorem resetIsObservedAsIdleAndStopped : Obligations.ResetIsObservedAsIdleAndStopped := by
  intro c hc
  have hreading : (State.resetOf c).flt.reading c = c.mid := Flt.reading_of_not_full rfl
  refine ⟨hreading, ?_, fun i hi => ?_, fun hguard hmagnitude => ?_⟩
  · rw [Flt.magnitude_eq_abs, hreading]
  · obtain ⟨-, -, hinitialized, -⟩ := initial_input i
    exact State.level_of_uninitialized hc hi hinitialized
  · exact ⟨_, exec_ctlStep_resetOf hguard hmagnitude, State.ctlAnswer_emitted _ _ _ _, rfl, rfl⟩

/-! Another presentation at the port (70_reset_and_hazards.md R308). -/

/-- The same state with `p` at the port. -/
def State.withPort (s : State) (p : InPort) : State := { s with port := p }

/-- The same outcome with `p` at the port of the next state. -/
def outcomeWithPort (p : InPort) : Host.Outcome State Fault Refusal → Host.Outcome State Fault Refusal
  | .next t => .next (t.withPort p)
  | .fault f => .fault f
  | .refused r => .refused r

/-- `p` agrees with the port of `s` in `CTX` and in the buses and pins that the operation samples (30_encoding.md R81, R96;
10_state.md R45, R46, R48). -/
structure InPort.SampledAlike (p : InPort) (i : Instr) (s : State) : Prop where
  ctx : p.ctx = s.port.ctx
  a : i = .clkElapsed ∨ i = .clkHasElapsed → p.a = s.port.a
  b : i = .clkHasElapsed → p.b = s.port.b
  sample : i = .fltSample → p.smpReady = s.port.smpReady ∧ p.smpRaw = s.port.smpRaw
  din : ∀ k, i = .dbUpdate k → k.val < s.cfg.numInputs → p.din[k] = s.port.din[k]
  wake : i = .sysWait → p.wake = s.port.wake

section
variable {s : State} {p : InPort}

theorem State.endHold_withPort : (s.withPort p).endHold = s.endHold.withPort p := by
  unfold State.endHold
  rw [apply_ite (State.withPort · p)]
  rfl

theorem State.beginOp_withPort : (s.withPort p).beginOp = s.beginOp.withPort p := by
  rw [State.beginOp, State.endHold_withPort]
  rfl

theorem State.busA_withPort (h : p.a = s.port.a) : (s.withPort p).busA = s.busA :=
  congrArg (· % 2 ^ s.cfg.tickW) h

theorem State.busB_withPort (h : p.b = s.port.b) : (s.withPort p).busB = s.busB :=
  congrArg (· % 2 ^ s.cfg.tickW) h

theorem State.pinRaw_withPort (h : p.smpRaw = s.port.smpRaw) : (s.withPort p).pinRaw = s.pinRaw :=
  congrArg (· % 2 ^ s.cfg.sampleW) h

/-- An operation of the sequencer commutes with the exchange when its body does, from the state it begins in. -/
theorem State.loopOp_withPort {body : State → State} (hctx : p.ctx = s.port.ctx)
    (hbody : ∀ u : State, u.cfg = s.cfg → u.port = s.port → body (u.withPort p) = (body u).withPort p) :
    (s.withPort p).loopOp body = outcomeWithPort p (s.loopOp body) := by
  have hbegun := hbody s.beginOp s.beginOp_cfg s.beginOp_port
  rcases s.loopOp_cases body with ⟨h, hloop⟩ | ⟨h, hloop⟩
  · rw [hloop, State.loopOp_eq_next.2 ⟨hctx.trans h, rfl⟩, State.beginOp_withPort, hbegun]
    rfl
  · rw [hloop, State.loopOp_eq_refused.2 ⟨hctx.trans h, rfl⟩]
    rfl

/-- An operation of the tick agent likewise. -/
theorem State.tickOp_withPort {body : State → State} (hctx : p.ctx = s.port.ctx)
    (hbody : ∀ u : State, body (u.withPort p) = (body u).withPort p) :
    (s.withPort p).tickOp body = outcomeWithPort p (s.tickOp body) := by
  rcases s.tickOp_cases body with ⟨h, htick⟩ | ⟨h, htick⟩
  · rw [htick, State.tickOp_eq_next.2 ⟨hctx.trans h, rfl⟩, State.beginOp_withPort, hbody]
    rfl
  · rw [htick, State.tickOp_eq_refused.2 ⟨hctx.trans h, rfl⟩]
    rfl

/-- A format I operation commutes with the exchange when its meaning on a present input does: on an absent one it samples
no pin (30_encoding.md R96). -/
theorem State.onInput_withPort {i : InputIdx} {body : State → State}
    (hbody : i.val < s.cfg.numInputs → body (s.withPort p) = (body s).withPort p) :
    (s.withPort p).onInput i body = (s.onInput i body).withPort p := by
  rcases Nat.lt_or_ge i.val s.cfg.numInputs with hi | hi
  · rw [State.onInput_present body hi, State.onInput_present (s := s.withPort p) body hi, hbody hi]
  · rw [State.onInput_absent body hi, State.onInput_absent (s := s.withPort p) body hi]
    rfl

/-- The hold-detector follows the button's level, which is no pin (44_control.md R194). -/
theorem State.buttonUp_unless_level_withPort (t : Nat) :
    (if (s.withPort p).level 0 = true then s.withPort p else (s.withPort p).buttonUp t) =
      (if s.level 0 = true then s else s.buttonUp t).withPort p := by
  rw [apply_ite (State.withPort · p)]
  rfl

/-- A step after the guard samples no pin (44_control.md R194, R195). -/
theorem State.openStep_withPort (t m : Nat) : (s.withPort p).openStep t m = (s.openStep t m).withPort p := by
  unfold State.openStep
  rw [apply_ite (State.withPort · p)]
  exact if_congr Iff.rfl rfl (congrArg (fun u : State => (u.consumeEffect 0).control t m (u.consumeResult 0))
    (State.buttonUp_unless_level_withPort (s := s.endGuard) t))

end

/-- An operation does the same up to the port, whichever presentation that agrees in what it samples is there: a case split
along the operations, each by the parts its meaning is composed of. -/
theorem exec_withPort {i : Instr} {s : State} {p : InPort} (h : p.SampledAlike i s) :
    exec i (s.withPort p) = outcomeWithPort p (exec i s) := by
  unfold exec
  cases i with
  | sysWait =>
    refine State.loopOp_withPort h.ctx fun u _ hport => ?_
    have hwake : (u.withPort p).pinWake = u.pinWake := (h.wake rfl).trans (congrArg InPort.wake hport).symm
    rw [hwake, apply_ite (State.withPort · p)]
    rfl
  | clkTick => exact State.tickOp_withPort h.ctx fun _ => rfl
  | clkNow => exact State.loopOp_withPort h.ctx fun _ _ _ => rfl
  | clkElapsed =>
    refine State.loopOp_withPort h.ctx fun u _ hport => ?_
    rw [State.busA_withPort (hport ▸ h.a (.inl rfl))]
    rfl
  | clkHasElapsed =>
    refine State.loopOp_withPort h.ctx fun u _ hport => ?_
    rw [State.busA_withPort (hport ▸ h.a (.inr rfl)), State.busB_withPort (hport ▸ h.b rfl)]
    rfl
  | fltSample =>
    refine State.loopOp_withPort h.ctx fun u _ hport => ?_
    obtain ⟨hsmpReady, hsmpRaw⟩ := h.sample rfl
    have hready : (u.withPort p).pinReady = u.pinReady := hsmpReady.trans (congrArg InPort.smpReady hport).symm
    rw [hready, State.pinRaw_withPort (hport ▸ hsmpRaw), apply_ite (State.withPort · p)]
    rfl
  | fltReading => exact State.loopOp_withPort h.ctx fun _ _ _ => rfl
  | fltMagnitude => exact State.loopOp_withPort h.ctx fun _ _ _ => rfl
  | dbUpdate k =>
    refine State.loopOp_withPort h.ctx fun u hcfg hport => State.onInput_withPort fun hk => ?_
    have hdin : (u.withPort p).pinDin k = u.pinDin k :=
      (h.din k rfl (hcfg ▸ hk)).trans (congrArg (fun q : InPort => q.din[k]) hport).symm
    rw [hdin]
    rfl
  | dbGetState k => exact State.loopOp_withPort h.ctx fun _ _ _ => State.onInput_withPort fun _ => rfl
  | evPoll k => exact State.loopOp_withPort h.ctx fun _ _ _ => State.onInput_withPort fun _ => rfl
  | evConsume k => exact State.loopOp_withPort h.ctx fun _ _ _ => State.onInput_withPort fun _ => rfl
  | ctlStep =>
    refine State.loopOp_withPort h.ctx fun u _ _ => ?_
    rw [apply_ite (State.withPort · p), apply_ite (State.withPort · p)]
    exact if_congr Iff.rfl rfl (if_congr Iff.rfl rfl (congrArg (State.drive · 0) (State.openStep_withPort _ _)))

/-- Settles O57: `exec_withPort`, read at a next state and at a refusal. -/
theorem pinsAreSeenOnlyWhenSampled : Obligations.PinsAreSeenOnlyWhenSampled := by
  intro i s p hctx ha hb hsample hdin hwake
  have hexec : exec i (s.withPort p) = outcomeWithPort p (exec i s) := exec_withPort ⟨hctx, ha, hb, hsample, hdin, hwake⟩
  exact ⟨fun t hnext => hexec.trans (congrArg (outcomeWithPort p) hnext),
    fun r hrefused => hexec.trans (congrArg (outcomeWithPort p) hrefused)⟩

end Machine
end Sys2Proof
end
